-- ==== Sys2Proof/Word.lean ====
section
/-! DEFINITION. The word types of the block and their plainest arithmetic (00_scope.md R11). -/

namespace Sys2Proof

/-- A register byte, a byte of system memory (20_memory.md R36, R40). -/
abbrev Byte := BitVec 8

/-- A cycle stamp: `u32`, arithmetic modulo `2^32` (00_scope.md R11, `CYCLE_W`). -/
abbrev Stamp := BitVec 32

/-- A serial word on its way, as wide as RXINJECT's operand (00_scope.md R8, 44_uart.md R142); how much of it the
block keeps is `Params.word`. -/
abbrev SerialWord := BitVec 16

/-- A 20-bit command word `{class[3:0], a[7:0], d[7:0]}` (30_encoding.md R50). -/
abbrev CmdWord := BitVec 20

/-- `s8(b)`: the byte read as two's complement, -128 to 127 (00_scope.md R11). -/
abbrev s8 (b : Byte) : Int := b.toInt

/-- `u8(v)`: the low 8 bits of an integer (00_scope.md R11). -/
abbrev u8 (v : Int) : Byte := BitVec.ofInt 8 v

/-- `clamp(v, lo, hi)` of 00_scope.md R11. -/
def clamp (v lo hi : Int) : Int := if v < lo then lo else if hi < v then hi else v

end Sys2Proof
end

