-- ==== Sys2Proof/Syntax.lean ====
section
/-! DEFINITION. The commands of the block: one constructor per row of spec/opcode_table.json, in the
table's order. An operand is what the row's encoding carries (30_encoding.md R50 to R54); bits the
decoder ignores (R51) are no operand. An illegal-access block keeps the offset accessed when the block
spans more than one, and a POKE its byte. -/

namespace Sys2Proof

/-- A command of the block (00_scope.md R8, 30_encoding.md R51 to R54). -/
inductive Instr where
  /-- `PEEK TIMnBKUP` (41_timers.md R92). -/
  | peekTimBkup (n : Fin 8)
  /-- `POKE TIMnBKUP` (41_timers.md R93). -/
  | pokeTimBkup (n : Fin 8) (val : Byte)
  /-- `PEEK TIMnCTLA` (41_timers.md R94). -/
  | peekTimCtla (n : Fin 8)
  /-- `POKE TIMnCTLA` (41_timers.md R95). -/
  | pokeTimCtla (n : Fin 8) (val : Byte)
  /-- `PEEK TIMnCNT` (41_timers.md R96). -/
  | peekTimCnt (n : Fin 8)
  /-- `POKE TIMnCNT` (41_timers.md R97). -/
  | pokeTimCnt (n : Fin 8) (val : Byte)
  /-- `PEEK TIMnCTLB` (41_timers.md R98). -/
  | peekTimCtlb (n : Fin 8)
  /-- `POKE TIMnCTLB` (41_timers.md R99). -/
  | pokeTimCtlb (n : Fin 8) (val : Byte)
  /-- `PEEK AUDcVOL` (42_audio.md R106). -/
  | peekAudVol (c : Fin 4)
  /-- `POKE AUDcVOL` (42_audio.md R107). -/
  | pokeAudVol (c : Fin 4) (val : Byte)
  /-- `PEEK AUDcSHFTFB` (42_audio.md R108). -/
  | peekAudShftfb (c : Fin 4)
  /-- `POKE AUDcSHFTFB` (42_audio.md R109). -/
  | pokeAudShftfb (c : Fin 4) (val : Byte)
  /-- `PEEK AUDcOUTVAL` (42_audio.md R110). -/
  | peekAudOutval (c : Fin 4)
  /-- `POKE AUDcOUTVAL` (42_audio.md R111). -/
  | pokeAudOutval (c : Fin 4) (val : Byte)
  /-- `PEEK AUDcL8SHFT` (42_audio.md R112). -/
  | peekAudL8shft (c : Fin 4)
  /-- `POKE AUDcL8SHFT` (42_audio.md R113). -/
  | pokeAudL8shft (c : Fin 4) (val : Byte)
  /-- `PEEK AUDcTBACK` (42_audio.md R114). -/
  | peekAudTback (c : Fin 4)
  /-- `POKE AUDcTBACK` (42_audio.md R115). -/
  | pokeAudTback (c : Fin 4) (val : Byte)
  /-- `PEEK AUDcCTL` (42_audio.md R116). -/
  | peekAudCtl (c : Fin 4)
  /-- `POKE AUDcCTL` (42_audio.md R117). -/
  | pokeAudCtl (c : Fin 4) (val : Byte)
  /-- `PEEK AUDcCOUNT` (42_audio.md R118). -/
  | peekAudCount (c : Fin 4)
  /-- `POKE AUDcCOUNT` (42_audio.md R119). -/
  | pokeAudCount (c : Fin 4) (val : Byte)
  /-- `PEEK AUDcMISC` (42_audio.md R120). -/
  | peekAudMisc (c : Fin 4)
  /-- `POKE AUDcMISC` (42_audio.md R121). -/
  | pokeAudMisc (c : Fin 4) (val : Byte)
  /-- `PEEK ATTENc` (42_audio.md R122). -/
  | peekAtten (c : Fin 4)
  /-- `POKE ATTENc` (42_audio.md R123). -/
  | pokeAtten (c : Fin 4) (val : Byte)
  /-- `PEEK MPAN` (42_audio.md R124). -/
  | peekMpan
  /-- `POKE MPAN` (42_audio.md R125). -/
  | pokeMpan (val : Byte)
  /-- `PEEK MSTEREO` (42_audio.md R126). -/
  | peekMstereo
  /-- `POKE MSTEREO` (42_audio.md R127). -/
  | pokeMstereo (val : Byte)
  /-- `PEEK INTRST` (45_system_registers.md R156). -/
  | peekIntrst
  /-- `POKE INTRST` (45_system_registers.md R157). -/
  | pokeIntrst (val : Byte)
  /-- `PEEK INTSET` (45_system_registers.md R158). -/
  | peekIntset
  /-- `POKE INTSET` (45_system_registers.md R159). -/
  | pokeIntset (val : Byte)
  /-- `PEEK MAGRDY0` (45_system_registers.md R164). -/
  | peekMagrdy0
  /-- `PEEK MAGRDY1` (45_system_registers.md R164). -/
  | peekMagrdy1
  /-- `PEEK AUDIN` (45_system_registers.md R164). -/
  | peekAudin
  /-- `POKE SYSCTL1` (45_system_registers.md R160). -/
  | pokeSysctl1 (val : Byte)
  /-- `PEEK MIKEYHREV` (45_system_registers.md R164). -/
  | peekMikeyhrev
  /-- `POKE MIKEYSREV` (45_system_registers.md R165). -/
  | pokeMikeysrev (val : Byte)
  /-- `POKE IODIR` (45_system_registers.md R161). -/
  | pokeIodir (val : Byte)
  /-- `PEEK IODAT` (45_system_registers.md R163). -/
  | peekIodat
  /-- `POKE IODAT` (45_system_registers.md R162). -/
  | pokeIodat (val : Byte)
  /-- `PEEK SERCTL` (44_uart.md R151). -/
  | peekSerctl
  /-- `POKE SERCTL` (44_uart.md R152). -/
  | pokeSerctl (val : Byte)
  /-- `PEEK SERDAT` (44_uart.md R153). -/
  | peekSerdat
  /-- `POKE SERDAT` (44_uart.md R154). -/
  | pokeSerdat (val : Byte)
  /-- `POKE SDONEACK` (45_system_registers.md R165). -/
  | pokeSdoneack (val : Byte)
  /-- `POKE CPUSLEEP` (45_system_registers.md R165). -/
  | pokeCpusleep (val : Byte)
  /-- `POKE DISPCTL` (43_display.md R135). -/
  | pokeDispctl (val : Byte)
  /-- `POKE PBKUP` (45_system_registers.md R165). -/
  | pokePbkup (val : Byte)
  /-- `POKE DISPADRL` (43_display.md R136). -/
  | pokeDispadrl (val : Byte)
  /-- `POKE DISPADRH` (43_display.md R137). -/
  | pokeDispadrh (val : Byte)
  /-- `POKE MTEST0` (45_system_registers.md R165). -/
  | pokeMtest0 (val : Byte)
  /-- `POKE MTEST1` (45_system_registers.md R165). -/
  | pokeMtest1 (val : Byte)
  /-- `POKE MTEST2` (45_system_registers.md R165). -/
  | pokeMtest2 (val : Byte)
  /-- `PEEK GREENi` (43_display.md R138). -/
  | peekGreen (i : Fin 16)
  /-- `POKE GREENi` (43_display.md R139). -/
  | pokeGreen (i : Fin 16) (val : Byte)
  /-- `PEEK BLUEREDi` (43_display.md R140). -/
  | peekBluered (i : Fin 16)
  /-- `POKE BLUEREDi` (43_display.md R141). -/
  | pokeBluered (i : Fin 16) (val : Byte)
  /-- PEEK of the illegal offset 0x45 (45_system_registers.md R155). -/
  | peekIllegal45
  /-- PEEK of an illegal offset, 0x46 to 0x47 (45_system_registers.md R155). -/
  | peekIllegal46 (off : Byte)
  /-- PEEK of an illegal offset, 0x48 to 0x4F (45_system_registers.md R155). -/
  | peekIllegal48 (off : Byte)
  /-- PEEK of the illegal offset 0x51 (45_system_registers.md R155). -/
  | peekIllegal51
  /-- PEEK of an illegal offset, 0x52 to 0x53 (45_system_registers.md R155). -/
  | peekIllegal52 (off : Byte)
  /-- PEEK of an illegal offset, 0x54 to 0x57 (45_system_registers.md R155). -/
  | peekIllegal54 (off : Byte)
  /-- PEEK of an illegal offset, 0x58 to 0x5F (45_system_registers.md R155). -/
  | peekIllegal58 (off : Byte)
  /-- PEEK of an illegal offset, 0x60 to 0x7F (45_system_registers.md R155). -/
  | peekIllegal60 (off : Byte)
  /-- PEEK of an illegal offset, 0x82 to 0x83 (45_system_registers.md R155). -/
  | peekIllegal82 (off : Byte)
  /-- PEEK of the illegal offset 0x87 (45_system_registers.md R155). -/
  | peekIllegal87
  /-- PEEK of the illegal offset 0x89 (45_system_registers.md R155). -/
  | peekIllegal89
  /-- PEEK of the illegal offset 0x8A (45_system_registers.md R155). -/
  | peekIllegal8A
  /-- PEEK of an illegal offset, 0x8E to 0x8F (45_system_registers.md R155). -/
  | peekIllegal8E (off : Byte)
  /-- PEEK of an illegal offset, 0x90 to 0x9F (45_system_registers.md R155). -/
  | peekIllegal90 (off : Byte)
  /-- PEEK of an illegal offset, 0xC0 to 0xFF (45_system_registers.md R155). -/
  | peekIllegalC0 (off : Byte)
  /-- POKE of the illegal offset 0x45 (45_system_registers.md R155). -/
  | pokeIllegal45 (val : Byte)
  /-- POKE of an illegal offset, 0x46 to 0x47 (45_system_registers.md R155). -/
  | pokeIllegal46 (off : Byte) (val : Byte)
  /-- POKE of an illegal offset, 0x48 to 0x4F (45_system_registers.md R155). -/
  | pokeIllegal48 (off : Byte) (val : Byte)
  /-- POKE of the illegal offset 0x51 (45_system_registers.md R155). -/
  | pokeIllegal51 (val : Byte)
  /-- POKE of an illegal offset, 0x52 to 0x53 (45_system_registers.md R155). -/
  | pokeIllegal52 (off : Byte) (val : Byte)
  /-- POKE of an illegal offset, 0x54 to 0x57 (45_system_registers.md R155). -/
  | pokeIllegal54 (off : Byte) (val : Byte)
  /-- POKE of an illegal offset, 0x58 to 0x5F (45_system_registers.md R155). -/
  | pokeIllegal58 (off : Byte) (val : Byte)
  /-- POKE of an illegal offset, 0x60 to 0x7F (45_system_registers.md R155). -/
  | pokeIllegal60 (off : Byte) (val : Byte)
  /-- POKE of an illegal offset, 0x82 to 0x83 (45_system_registers.md R155). -/
  | pokeIllegal82 (off : Byte) (val : Byte)
  /-- POKE of an illegal offset, 0x84 to 0x85 (45_system_registers.md R155). -/
  | pokeIllegal84 (off : Byte) (val : Byte)
  /-- POKE of the illegal offset 0x86 (45_system_registers.md R155). -/
  | pokeIllegal86 (val : Byte)
  /-- POKE of the illegal offset 0x88 (45_system_registers.md R155). -/
  | pokeIllegal88 (val : Byte)
  /-- POKE of an illegal offset, 0x8E to 0x8F (45_system_registers.md R155). -/
  | pokeIllegal8E (off : Byte) (val : Byte)
  /-- POKE of an illegal offset, 0x96 to 0x97 (45_system_registers.md R155). -/
  | pokeIllegal96 (off : Byte) (val : Byte)
  /-- POKE of an illegal offset, 0x98 to 0x9B (45_system_registers.md R155). -/
  | pokeIllegal98 (off : Byte) (val : Byte)
  /-- POKE of the illegal offset 0x9F (45_system_registers.md R155). -/
  | pokeIllegal9F (val : Byte)
  /-- POKE of an illegal offset, 0xC0 to 0xFF (45_system_registers.md R155). -/
  | pokeIllegalC0 (off : Byte) (val : Byte)
  /-- `UPDATE` (40_update_dispatcher.md R67). -/
  | update
  /-- `ADVANCE n` (40_update_dispatcher.md R79). -/
  | advance (n : BitVec 16)
  /-- `RESET` (70_reset_and_hazards.md R178). -/
  | reset
  /-- `RXINJECT w` (44_uart.md R149). -/
  | rxInject (w : SerialWord)
  /-- `BINDSURFACE` (43_display.md R129). -/
  | bindSurface
  /-- `SETSKIP b` (43_display.md R130). -/
  | setSkip (b : Bool)
  /-- `SETEPOCH` (42_audio.md R105). -/
  | setEpoch
  /-- `SETCALLBACK b` (44_uart.md R150). -/
  | setCallback (b : Bool)
  deriving DecidableEq, Repr

end Sys2Proof
end

