-- ==== Sys2Proof/WellFormed.lean ====
section
/-! DEFINITION. Which terms of `Instr` stand for a command word. Indices and bytes are bounded by their
types; what is left to check is that an illegal-access block's offset lies in the block
(30_encoding.md R54, opcode_table.json). -/

namespace Sys2Proof

/-- The offset lies in the block `lo..hi` of an illegal-access row. -/
def offsetIn (lo hi off : Byte) : Bool := decide (lo ≤ off) && decide (off ≤ hi)

/-- The checks of an instruction: an offset operand lies in its row's block. -/
def Instr.wellFormed : Instr → Bool
  | .peekTimBkup _ => true
  | .pokeTimBkup _ _ => true
  | .peekTimCtla _ => true
  | .pokeTimCtla _ _ => true
  | .peekTimCnt _ => true
  | .pokeTimCnt _ _ => true
  | .peekTimCtlb _ => true
  | .pokeTimCtlb _ _ => true
  | .peekAudVol _ => true
  | .pokeAudVol _ _ => true
  | .peekAudShftfb _ => true
  | .pokeAudShftfb _ _ => true
  | .peekAudOutval _ => true
  | .pokeAudOutval _ _ => true
  | .peekAudL8shft _ => true
  | .pokeAudL8shft _ _ => true
  | .peekAudTback _ => true
  | .pokeAudTback _ _ => true
  | .peekAudCtl _ => true
  | .pokeAudCtl _ _ => true
  | .peekAudCount _ => true
  | .pokeAudCount _ _ => true
  | .peekAudMisc _ => true
  | .pokeAudMisc _ _ => true
  | .peekAtten _ => true
  | .pokeAtten _ _ => true
  | .peekMpan => true
  | .pokeMpan _ => true
  | .peekMstereo => true
  | .pokeMstereo _ => true
  | .peekIntrst => true
  | .pokeIntrst _ => true
  | .peekIntset => true
  | .pokeIntset _ => true
  | .peekMagrdy0 => true
  | .peekMagrdy1 => true
  | .peekAudin => true
  | .pokeSysctl1 _ => true
  | .peekMikeyhrev => true
  | .pokeMikeysrev _ => true
  | .pokeIodir _ => true
  | .peekIodat => true
  | .pokeIodat _ => true
  | .peekSerctl => true
  | .pokeSerctl _ => true
  | .peekSerdat => true
  | .pokeSerdat _ => true
  | .pokeSdoneack _ => true
  | .pokeCpusleep _ => true
  | .pokeDispctl _ => true
  | .pokePbkup _ => true
  | .pokeDispadrl _ => true
  | .pokeDispadrh _ => true
  | .pokeMtest0 _ => true
  | .pokeMtest1 _ => true
  | .pokeMtest2 _ => true
  | .peekGreen _ => true
  | .pokeGreen _ _ => true
  | .peekBluered _ => true
  | .pokeBluered _ _ => true
  | .peekIllegal45 => true
  | .peekIllegal46 off => offsetIn 0x46 0x47 off
  | .peekIllegal48 off => offsetIn 0x48 0x4F off
  | .peekIllegal51 => true
  | .peekIllegal52 off => offsetIn 0x52 0x53 off
  | .peekIllegal54 off => offsetIn 0x54 0x57 off
  | .peekIllegal58 off => offsetIn 0x58 0x5F off
  | .peekIllegal60 off => offsetIn 0x60 0x7F off
  | .peekIllegal82 off => offsetIn 0x82 0x83 off
  | .peekIllegal87 => true
  | .peekIllegal89 => true
  | .peekIllegal8A => true
  | .peekIllegal8E off => offsetIn 0x8E 0x8F off
  | .peekIllegal90 off => offsetIn 0x90 0x9F off
  | .peekIllegalC0 off => offsetIn 0xC0 0xFF off
  | .pokeIllegal45 _ => true
  | .pokeIllegal46 off _ => offsetIn 0x46 0x47 off
  | .pokeIllegal48 off _ => offsetIn 0x48 0x4F off
  | .pokeIllegal51 _ => true
  | .pokeIllegal52 off _ => offsetIn 0x52 0x53 off
  | .pokeIllegal54 off _ => offsetIn 0x54 0x57 off
  | .pokeIllegal58 off _ => offsetIn 0x58 0x5F off
  | .pokeIllegal60 off _ => offsetIn 0x60 0x7F off
  | .pokeIllegal82 off _ => offsetIn 0x82 0x83 off
  | .pokeIllegal84 off _ => offsetIn 0x84 0x85 off
  | .pokeIllegal86 _ => true
  | .pokeIllegal88 _ => true
  | .pokeIllegal8E off _ => offsetIn 0x8E 0x8F off
  | .pokeIllegal96 off _ => offsetIn 0x96 0x97 off
  | .pokeIllegal98 off _ => offsetIn 0x98 0x9B off
  | .pokeIllegal9F _ => true
  | .pokeIllegalC0 off _ => offsetIn 0xC0 0xFF off
  | .update => true
  | .advance _ => true
  | .reset => true
  | .rxInject _ => true
  | .bindSurface => true
  | .setSkip _ => true
  | .setEpoch => true
  | .setCallback _ => true

end Sys2Proof
end

