-- ==== Sys2Proof/Decode.lean ====
section
/-! DEFINITION. Decoding a 20-bit command word (30_encoding.md R50 to R54), total on every word and
refusing the reserved classes by name; then the encoder, written from the same tables; then the row of
spec/opcode_table.json that an instruction belongs to. -/

namespace Sys2Proof

/-- Why a word is no command: its class is reserved (30_encoding.md R51, 93 U4). -/
inductive DecodeError where
  | reservedClass (cls : BitVec 4)
  deriving DecidableEq, Repr

/-- The five offset formats of 30_encoding.md R53; `r`, `k` are the register within the unit. -/
inductive OffsetFormat where
  | timer (n : Fin 8) (r : Fin 4)
  | audio (c : Fin 4) (k : Fin 8)
  | atten (c : Fin 4)
  | palette (bluered : Bool) (i : Fin 16)
  | single (off : Byte)
  deriving DecidableEq, Repr

/-- The format of an offset (30_encoding.md R53). -/
def offsetFormat (off : Byte) : OffsetFormat :=
  if off.extractLsb' 5 3 = 0b000#3 then
    .timer (off.extractLsb' 2 3).toFin (off.extractLsb' 0 2).toFin
  else if off.extractLsb' 5 3 = 0b001#3 then
    .audio (off.extractLsb' 3 2).toFin (off.extractLsb' 0 3).toFin
  else if off.extractLsb' 2 6 = 0b010000#6 then
    .atten (off.extractLsb' 0 2).toFin
  else if off.extractLsb' 5 3 = 0b101#3 then
    .palette (off.getLsbD 4) (off.extractLsb' 0 4).toFin
  else .single off

/-- The register the map of 30_encoding.md R54 puts at a single offset, and the illegal blocks, for a PEEK. -/
def decodePeekSingle (off : Byte) : Instr :=
    if off = 0x44#8 then .peekMpan else
    if off = 0x50#8 then .peekMstereo else
    if off = 0x80#8 then .peekIntrst else
    if off = 0x81#8 then .peekIntset else
    if off = 0x84#8 then .peekMagrdy0 else
    if off = 0x85#8 then .peekMagrdy1 else
    if off = 0x86#8 then .peekAudin else
    if off = 0x88#8 then .peekMikeyhrev else
    if off = 0x8B#8 then .peekIodat else
    if off = 0x8C#8 then .peekSerctl else
    if off = 0x8D#8 then .peekSerdat else
    if off = 0x45#8 then .peekIllegal45 else
    if offsetIn 0x46 0x47 off then .peekIllegal46 off else
    if offsetIn 0x48 0x4F off then .peekIllegal48 off else
    if off = 0x51#8 then .peekIllegal51 else
    if offsetIn 0x52 0x53 off then .peekIllegal52 off else
    if offsetIn 0x54 0x57 off then .peekIllegal54 off else
    if offsetIn 0x58 0x5F off then .peekIllegal58 off else
    if offsetIn 0x60 0x7F off then .peekIllegal60 off else
    if offsetIn 0x82 0x83 off then .peekIllegal82 off else
    if off = 0x87#8 then .peekIllegal87 else
    if off = 0x89#8 then .peekIllegal89 else
    if off = 0x8A#8 then .peekIllegal8A else
    if offsetIn 0x8E 0x8F off then .peekIllegal8E off else
    if offsetIn 0x90 0x9F off then .peekIllegal90 off else
    .peekIllegalC0 off

/-- `PEEK` of an offset (30_encoding.md R52 to R54). -/
def decodePeek (off : Byte) : Instr :=
  match offsetFormat off with
  | .timer n 0 => .peekTimBkup n
  | .timer n 1 => .peekTimCtla n
  | .timer n 2 => .peekTimCnt n
  | .timer n 3 => .peekTimCtlb n
  | .audio c 0 => .peekAudVol c
  | .audio c 1 => .peekAudShftfb c
  | .audio c 2 => .peekAudOutval c
  | .audio c 3 => .peekAudL8shft c
  | .audio c 4 => .peekAudTback c
  | .audio c 5 => .peekAudCtl c
  | .audio c 6 => .peekAudCount c
  | .audio c 7 => .peekAudMisc c
  | .atten c => .peekAtten c
  | .palette false i => .peekGreen i
  | .palette true i => .peekBluered i
  | .single off => decodePeekSingle off

/-- The register the map of 30_encoding.md R54 puts at a single offset, and the illegal blocks, for a POKE. -/
def decodePokeSingle (off : Byte) (val : Byte) : Instr :=
    if off = 0x44#8 then .pokeMpan val else
    if off = 0x50#8 then .pokeMstereo val else
    if off = 0x80#8 then .pokeIntrst val else
    if off = 0x81#8 then .pokeIntset val else
    if off = 0x87#8 then .pokeSysctl1 val else
    if off = 0x89#8 then .pokeMikeysrev val else
    if off = 0x8A#8 then .pokeIodir val else
    if off = 0x8B#8 then .pokeIodat val else
    if off = 0x8C#8 then .pokeSerctl val else
    if off = 0x8D#8 then .pokeSerdat val else
    if off = 0x90#8 then .pokeSdoneack val else
    if off = 0x91#8 then .pokeCpusleep val else
    if off = 0x92#8 then .pokeDispctl val else
    if off = 0x93#8 then .pokePbkup val else
    if off = 0x94#8 then .pokeDispadrl val else
    if off = 0x95#8 then .pokeDispadrh val else
    if off = 0x9C#8 then .pokeMtest0 val else
    if off = 0x9D#8 then .pokeMtest1 val else
    if off = 0x9E#8 then .pokeMtest2 val else
    if off = 0x45#8 then .pokeIllegal45 val else
    if offsetIn 0x46 0x47 off then .pokeIllegal46 off val else
    if offsetIn 0x48 0x4F off then .pokeIllegal48 off val else
    if off = 0x51#8 then .pokeIllegal51 val else
    if offsetIn 0x52 0x53 off then .pokeIllegal52 off val else
    if offsetIn 0x54 0x57 off then .pokeIllegal54 off val else
    if offsetIn 0x58 0x5F off then .pokeIllegal58 off val else
    if offsetIn 0x60 0x7F off then .pokeIllegal60 off val else
    if offsetIn 0x82 0x83 off then .pokeIllegal82 off val else
    if offsetIn 0x84 0x85 off then .pokeIllegal84 off val else
    if off = 0x86#8 then .pokeIllegal86 val else
    if off = 0x88#8 then .pokeIllegal88 val else
    if offsetIn 0x8E 0x8F off then .pokeIllegal8E off val else
    if offsetIn 0x96 0x97 off then .pokeIllegal96 off val else
    if offsetIn 0x98 0x9B off then .pokeIllegal98 off val else
    if off = 0x9F#8 then .pokeIllegal9F val else
    .pokeIllegalC0 off val

/-- `POKE` of an offset (30_encoding.md R52 to R54). -/
def decodePoke (off : Byte) (val : Byte) : Instr :=
  match offsetFormat off with
  | .timer n 0 => .pokeTimBkup n val
  | .timer n 1 => .pokeTimCtla n val
  | .timer n 2 => .pokeTimCnt n val
  | .timer n 3 => .pokeTimCtlb n val
  | .audio c 0 => .pokeAudVol c val
  | .audio c 1 => .pokeAudShftfb c val
  | .audio c 2 => .pokeAudOutval c val
  | .audio c 3 => .pokeAudL8shft c val
  | .audio c 4 => .pokeAudTback c val
  | .audio c 5 => .pokeAudCtl c val
  | .audio c 6 => .pokeAudCount c val
  | .audio c 7 => .pokeAudMisc c val
  | .atten c => .pokeAtten c val
  | .palette false i => .pokeGreen i val
  | .palette true i => .pokeBluered i val
  | .single off => decodePokeSingle off val

/-- The fields of a command word: class, `a`, `d` (30_encoding.md R50). -/
def CmdWord.cls (w : CmdWord) : BitVec 4 := w.extractLsb' 16 4
/-- Bits 15:8 of a command word (30_encoding.md R50). -/
def CmdWord.a (w : CmdWord) : Byte := w.extractLsb' 8 8
/-- Bits 7:0 of a command word (30_encoding.md R50). -/
def CmdWord.d (w : CmdWord) : Byte := w.extractLsb' 0 8

/-- The decoder (30_encoding.md R51, R52). -/
def decode (w : CmdWord) : Except DecodeError Instr :=
  if w.cls = 0x0#4 then .ok (decodePeek w.a)
  else if w.cls = 0x1#4 then .ok (decodePoke w.a w.d)
  else if w.cls = 0x2#4 then .ok .update
  else if w.cls = 0x3#4 then .ok (.advance (w.a ++ w.d))
  else if w.cls = 0x4#4 then .ok .reset
  else if w.cls = 0x5#4 then .ok (.rxInject (w.a ++ w.d))
  else if w.cls = 0x6#4 then .ok .bindSurface
  else if w.cls = 0x7#4 then .ok (.setSkip (w.d.getLsbD 0))
  else if w.cls = 0x8#4 then .ok .setEpoch
  else if w.cls = 0x9#4 then .ok (.setCallback (w.d.getLsbD 0))
  else .error (.reservedClass w.cls)

/-- The instruction the decoder reads from `w`, numbered as spec/opcode_table.json numbers bits; none
where the decoder refuses the word or the number is wider than a command word. -/
def decodeTableWord (nbits w : Nat) : Option Instr :=
  let v := w % 2 ^ nbits
  if v < 2 ^ 20 then
    match decode (BitVec.ofNat 20 v) with
    | .ok i => some i
    | .error _ => none
  else none

/-- A command word from its fields (30_encoding.md R50). -/
def mkWord (cls : BitVec 4) (a d : Byte) : CmdWord := cls ++ a ++ d

/-- Format T (30_encoding.md R53). -/
def offsetT (n : Fin 8) (r : BitVec 2) : Byte := 0b000#3 ++ BitVec.ofNat 3 n ++ r
/-- Format A (30_encoding.md R53). -/
def offsetA (c : Fin 4) (k : BitVec 3) : Byte := 0b001#3 ++ BitVec.ofNat 2 c ++ k
/-- Format N (30_encoding.md R53). -/
def offsetN (c : Fin 4) : Byte := 0b010000#6 ++ BitVec.ofNat 2 c
/-- Format P (30_encoding.md R53). -/
def offsetP (s : BitVec 1) (i : Fin 16) : Byte := 0b101#3 ++ s ++ BitVec.ofNat 4 i

/-- The word an assembler writes for a command: ignored bits are 0 (30_encoding.md R51, R64). -/
def encode : Instr → CmdWord
  | .peekTimBkup n => mkWord 0x0 (offsetT n 0) 0
  | .pokeTimBkup n val => mkWord 0x1 (offsetT n 0) val
  | .peekTimCtla n => mkWord 0x0 (offsetT n 1) 0
  | .pokeTimCtla n val => mkWord 0x1 (offsetT n 1) val
  | .peekTimCnt n => mkWord 0x0 (offsetT n 2) 0
  | .pokeTimCnt n val => mkWord 0x1 (offsetT n 2) val
  | .peekTimCtlb n => mkWord 0x0 (offsetT n 3) 0
  | .pokeTimCtlb n val => mkWord 0x1 (offsetT n 3) val
  | .peekAudVol c => mkWord 0x0 (offsetA c 0) 0
  | .pokeAudVol c val => mkWord 0x1 (offsetA c 0) val
  | .peekAudShftfb c => mkWord 0x0 (offsetA c 1) 0
  | .pokeAudShftfb c val => mkWord 0x1 (offsetA c 1) val
  | .peekAudOutval c => mkWord 0x0 (offsetA c 2) 0
  | .pokeAudOutval c val => mkWord 0x1 (offsetA c 2) val
  | .peekAudL8shft c => mkWord 0x0 (offsetA c 3) 0
  | .pokeAudL8shft c val => mkWord 0x1 (offsetA c 3) val
  | .peekAudTback c => mkWord 0x0 (offsetA c 4) 0
  | .pokeAudTback c val => mkWord 0x1 (offsetA c 4) val
  | .peekAudCtl c => mkWord 0x0 (offsetA c 5) 0
  | .pokeAudCtl c val => mkWord 0x1 (offsetA c 5) val
  | .peekAudCount c => mkWord 0x0 (offsetA c 6) 0
  | .pokeAudCount c val => mkWord 0x1 (offsetA c 6) val
  | .peekAudMisc c => mkWord 0x0 (offsetA c 7) 0
  | .pokeAudMisc c val => mkWord 0x1 (offsetA c 7) val
  | .peekAtten c => mkWord 0x0 (offsetN c) 0
  | .pokeAtten c val => mkWord 0x1 (offsetN c) val
  | .peekMpan => mkWord 0x0 0x44 0
  | .pokeMpan val => mkWord 0x1 0x44 val
  | .peekMstereo => mkWord 0x0 0x50 0
  | .pokeMstereo val => mkWord 0x1 0x50 val
  | .peekIntrst => mkWord 0x0 0x80 0
  | .pokeIntrst val => mkWord 0x1 0x80 val
  | .peekIntset => mkWord 0x0 0x81 0
  | .pokeIntset val => mkWord 0x1 0x81 val
  | .peekMagrdy0 => mkWord 0x0 0x84 0
  | .peekMagrdy1 => mkWord 0x0 0x85 0
  | .peekAudin => mkWord 0x0 0x86 0
  | .pokeSysctl1 val => mkWord 0x1 0x87 val
  | .peekMikeyhrev => mkWord 0x0 0x88 0
  | .pokeMikeysrev val => mkWord 0x1 0x89 val
  | .pokeIodir val => mkWord 0x1 0x8A val
  | .peekIodat => mkWord 0x0 0x8B 0
  | .pokeIodat val => mkWord 0x1 0x8B val
  | .peekSerctl => mkWord 0x0 0x8C 0
  | .pokeSerctl val => mkWord 0x1 0x8C val
  | .peekSerdat => mkWord 0x0 0x8D 0
  | .pokeSerdat val => mkWord 0x1 0x8D val
  | .pokeSdoneack val => mkWord 0x1 0x90 val
  | .pokeCpusleep val => mkWord 0x1 0x91 val
  | .pokeDispctl val => mkWord 0x1 0x92 val
  | .pokePbkup val => mkWord 0x1 0x93 val
  | .pokeDispadrl val => mkWord 0x1 0x94 val
  | .pokeDispadrh val => mkWord 0x1 0x95 val
  | .pokeMtest0 val => mkWord 0x1 0x9C val
  | .pokeMtest1 val => mkWord 0x1 0x9D val
  | .pokeMtest2 val => mkWord 0x1 0x9E val
  | .peekGreen i => mkWord 0x0 (offsetP 0 i) 0
  | .pokeGreen i val => mkWord 0x1 (offsetP 0 i) val
  | .peekBluered i => mkWord 0x0 (offsetP 1 i) 0
  | .pokeBluered i val => mkWord 0x1 (offsetP 1 i) val
  | .peekIllegal45 => mkWord 0x0 0x45 0
  | .peekIllegal46 off => mkWord 0x0 off 0
  | .peekIllegal48 off => mkWord 0x0 off 0
  | .peekIllegal51 => mkWord 0x0 0x51 0
  | .peekIllegal52 off => mkWord 0x0 off 0
  | .peekIllegal54 off => mkWord 0x0 off 0
  | .peekIllegal58 off => mkWord 0x0 off 0
  | .peekIllegal60 off => mkWord 0x0 off 0
  | .peekIllegal82 off => mkWord 0x0 off 0
  | .peekIllegal87 => mkWord 0x0 0x87 0
  | .peekIllegal89 => mkWord 0x0 0x89 0
  | .peekIllegal8A => mkWord 0x0 0x8A 0
  | .peekIllegal8E off => mkWord 0x0 off 0
  | .peekIllegal90 off => mkWord 0x0 off 0
  | .peekIllegalC0 off => mkWord 0x0 off 0
  | .pokeIllegal45 val => mkWord 0x1 0x45 val
  | .pokeIllegal46 off val => mkWord 0x1 off val
  | .pokeIllegal48 off val => mkWord 0x1 off val
  | .pokeIllegal51 val => mkWord 0x1 0x51 val
  | .pokeIllegal52 off val => mkWord 0x1 off val
  | .pokeIllegal54 off val => mkWord 0x1 off val
  | .pokeIllegal58 off val => mkWord 0x1 off val
  | .pokeIllegal60 off val => mkWord 0x1 off val
  | .pokeIllegal82 off val => mkWord 0x1 off val
  | .pokeIllegal84 off val => mkWord 0x1 off val
  | .pokeIllegal86 val => mkWord 0x1 0x86 val
  | .pokeIllegal88 val => mkWord 0x1 0x88 val
  | .pokeIllegal8E off val => mkWord 0x1 off val
  | .pokeIllegal96 off val => mkWord 0x1 off val
  | .pokeIllegal98 off val => mkWord 0x1 off val
  | .pokeIllegal9F val => mkWord 0x1 0x9F val
  | .pokeIllegalC0 off val => mkWord 0x1 off val
  | .update => mkWord 0x2 0 0
  | .advance n => mkWord 0x3 (n.extractLsb' 8 8) (n.extractLsb' 0 8)
  | .reset => mkWord 0x4 0 0
  | .rxInject w => mkWord 0x5 (w.extractLsb' 8 8) (w.extractLsb' 0 8)
  | .bindSurface => mkWord 0x6 0 0
  | .setSkip b => mkWord 0x7 0 (if b then 1 else 0)
  | .setEpoch => mkWord 0x8 0 0
  | .setCallback b => mkWord 0x9 0 (if b then 1 else 0)

/-- A row of spec/opcode_table.json: a word belongs to it when `word AND mask = pattern`. -/
structure Row where
  pattern : CmdWord
  mask : CmdWord
  deriving DecidableEq, Repr

/-- The word lies in the row. -/
def Row.holds (r : Row) (w : CmdWord) : Bool := w &&& r.mask == r.pattern

/-- The row of spec/opcode_table.json that an instruction stands for, its match and mask copied. -/
def Instr.row : Instr → Row
  | .peekTimBkup _ => ⟨0x00000, 0xFE300⟩
  | .pokeTimBkup _ _ => ⟨0x10000, 0xFE300⟩
  | .peekTimCtla _ => ⟨0x00100, 0xFE300⟩
  | .pokeTimCtla _ _ => ⟨0x10100, 0xFE300⟩
  | .peekTimCnt _ => ⟨0x00200, 0xFE300⟩
  | .pokeTimCnt _ _ => ⟨0x10200, 0xFE300⟩
  | .peekTimCtlb _ => ⟨0x00300, 0xFE300⟩
  | .pokeTimCtlb _ _ => ⟨0x10300, 0xFE300⟩
  | .peekAudVol _ => ⟨0x02000, 0xFE700⟩
  | .pokeAudVol _ _ => ⟨0x12000, 0xFE700⟩
  | .peekAudShftfb _ => ⟨0x02100, 0xFE700⟩
  | .pokeAudShftfb _ _ => ⟨0x12100, 0xFE700⟩
  | .peekAudOutval _ => ⟨0x02200, 0xFE700⟩
  | .pokeAudOutval _ _ => ⟨0x12200, 0xFE700⟩
  | .peekAudL8shft _ => ⟨0x02300, 0xFE700⟩
  | .pokeAudL8shft _ _ => ⟨0x12300, 0xFE700⟩
  | .peekAudTback _ => ⟨0x02400, 0xFE700⟩
  | .pokeAudTback _ _ => ⟨0x12400, 0xFE700⟩
  | .peekAudCtl _ => ⟨0x02500, 0xFE700⟩
  | .pokeAudCtl _ _ => ⟨0x12500, 0xFE700⟩
  | .peekAudCount _ => ⟨0x02600, 0xFE700⟩
  | .pokeAudCount _ _ => ⟨0x12600, 0xFE700⟩
  | .peekAudMisc _ => ⟨0x02700, 0xFE700⟩
  | .pokeAudMisc _ _ => ⟨0x12700, 0xFE700⟩
  | .peekAtten _ => ⟨0x04000, 0xFFC00⟩
  | .pokeAtten _ _ => ⟨0x14000, 0xFFC00⟩
  | .peekMpan => ⟨0x04400, 0xFFF00⟩
  | .pokeMpan _ => ⟨0x14400, 0xFFF00⟩
  | .peekMstereo => ⟨0x05000, 0xFFF00⟩
  | .pokeMstereo _ => ⟨0x15000, 0xFFF00⟩
  | .peekIntrst => ⟨0x08000, 0xFFF00⟩
  | .pokeIntrst _ => ⟨0x18000, 0xFFF00⟩
  | .peekIntset => ⟨0x08100, 0xFFF00⟩
  | .pokeIntset _ => ⟨0x18100, 0xFFF00⟩
  | .peekMagrdy0 => ⟨0x08400, 0xFFF00⟩
  | .peekMagrdy1 => ⟨0x08500, 0xFFF00⟩
  | .peekAudin => ⟨0x08600, 0xFFF00⟩
  | .pokeSysctl1 _ => ⟨0x18700, 0xFFF00⟩
  | .peekMikeyhrev => ⟨0x08800, 0xFFF00⟩
  | .pokeMikeysrev _ => ⟨0x18900, 0xFFF00⟩
  | .pokeIodir _ => ⟨0x18A00, 0xFFF00⟩
  | .peekIodat => ⟨0x08B00, 0xFFF00⟩
  | .pokeIodat _ => ⟨0x18B00, 0xFFF00⟩
  | .peekSerctl => ⟨0x08C00, 0xFFF00⟩
  | .pokeSerctl _ => ⟨0x18C00, 0xFFF00⟩
  | .peekSerdat => ⟨0x08D00, 0xFFF00⟩
  | .pokeSerdat _ => ⟨0x18D00, 0xFFF00⟩
  | .pokeSdoneack _ => ⟨0x19000, 0xFFF00⟩
  | .pokeCpusleep _ => ⟨0x19100, 0xFFF00⟩
  | .pokeDispctl _ => ⟨0x19200, 0xFFF00⟩
  | .pokePbkup _ => ⟨0x19300, 0xFFF00⟩
  | .pokeDispadrl _ => ⟨0x19400, 0xFFF00⟩
  | .pokeDispadrh _ => ⟨0x19500, 0xFFF00⟩
  | .pokeMtest0 _ => ⟨0x19C00, 0xFFF00⟩
  | .pokeMtest1 _ => ⟨0x19D00, 0xFFF00⟩
  | .pokeMtest2 _ => ⟨0x19E00, 0xFFF00⟩
  | .peekGreen _ => ⟨0x0A000, 0xFF000⟩
  | .pokeGreen _ _ => ⟨0x1A000, 0xFF000⟩
  | .peekBluered _ => ⟨0x0B000, 0xFF000⟩
  | .pokeBluered _ _ => ⟨0x1B000, 0xFF000⟩
  | .peekIllegal45 => ⟨0x04500, 0xFFF00⟩
  | .peekIllegal46 _ => ⟨0x04600, 0xFFE00⟩
  | .peekIllegal48 _ => ⟨0x04800, 0xFF800⟩
  | .peekIllegal51 => ⟨0x05100, 0xFFF00⟩
  | .peekIllegal52 _ => ⟨0x05200, 0xFFE00⟩
  | .peekIllegal54 _ => ⟨0x05400, 0xFFC00⟩
  | .peekIllegal58 _ => ⟨0x05800, 0xFF800⟩
  | .peekIllegal60 _ => ⟨0x06000, 0xFE000⟩
  | .peekIllegal82 _ => ⟨0x08200, 0xFFE00⟩
  | .peekIllegal87 => ⟨0x08700, 0xFFF00⟩
  | .peekIllegal89 => ⟨0x08900, 0xFFF00⟩
  | .peekIllegal8A => ⟨0x08A00, 0xFFF00⟩
  | .peekIllegal8E _ => ⟨0x08E00, 0xFFE00⟩
  | .peekIllegal90 _ => ⟨0x09000, 0xFF000⟩
  | .peekIllegalC0 _ => ⟨0x0C000, 0xFC000⟩
  | .pokeIllegal45 _ => ⟨0x14500, 0xFFF00⟩
  | .pokeIllegal46 _ _ => ⟨0x14600, 0xFFE00⟩
  | .pokeIllegal48 _ _ => ⟨0x14800, 0xFF800⟩
  | .pokeIllegal51 _ => ⟨0x15100, 0xFFF00⟩
  | .pokeIllegal52 _ _ => ⟨0x15200, 0xFFE00⟩
  | .pokeIllegal54 _ _ => ⟨0x15400, 0xFFC00⟩
  | .pokeIllegal58 _ _ => ⟨0x15800, 0xFF800⟩
  | .pokeIllegal60 _ _ => ⟨0x16000, 0xFE000⟩
  | .pokeIllegal82 _ _ => ⟨0x18200, 0xFFE00⟩
  | .pokeIllegal84 _ _ => ⟨0x18400, 0xFFE00⟩
  | .pokeIllegal86 _ => ⟨0x18600, 0xFFF00⟩
  | .pokeIllegal88 _ => ⟨0x18800, 0xFFF00⟩
  | .pokeIllegal8E _ _ => ⟨0x18E00, 0xFFE00⟩
  | .pokeIllegal96 _ _ => ⟨0x19600, 0xFFE00⟩
  | .pokeIllegal98 _ _ => ⟨0x19800, 0xFFC00⟩
  | .pokeIllegal9F _ => ⟨0x19F00, 0xFFF00⟩
  | .pokeIllegalC0 _ _ => ⟨0x1C000, 0xFC000⟩
  | .update => ⟨0x20000, 0xF0000⟩
  | .advance _ => ⟨0x30000, 0xF0000⟩
  | .reset => ⟨0x40000, 0xF0000⟩
  | .rxInject _ => ⟨0x50000, 0xF0000⟩
  | .bindSurface => ⟨0x60000, 0xF0000⟩
  | .setSkip _ => ⟨0x70000, 0xF0000⟩
  | .setEpoch => ⟨0x80000, 0xF0000⟩
  | .setCallback _ => ⟨0x90000, 0xF0000⟩

end Sys2Proof
end

