-- ==== Sys2Proof/Config.lean ====
section
/-! DEFINITION. The implementation parameters of 00_scope.md R10. What R10 marks GK (from general knowledge,
not in source) or 92_eei_decisions.md calls OPEN is a field of `Params`, which the state carries and no step
writes (`State.params`, notes/assumptions/21.md): a statement about every state holds for every value of them,
and one that depends on a value names it (93_implementation_defined.md U21). What the source itself fixes is a
definition of the namespace `Config`; `N_TIMERS` 8, `N_AUDIO` 4, `PAL_N` 16, `CYCLE_W` 32, `LFSR_W` 21 and
`CMAP_N` 4096 = 2^12 are the widths and lengths of the types of State; `CUR_W` is notes/assumptions/6.md. -/

namespace Sys2Proof

/-! ### What the source fixes -/

namespace Config

/-- `CLK_HZ`: no rule depends on it (70_reset_and_hazards.md R184). -/
def clkHz : Nat := 16000000

/-- `BASE_SHIFT`: a clocked counter ticks every `2^(4 + linking)` cycles. -/
def baseShift : Nat := 4

/-- `T4_EXTRA_SHIFT`: Timer 4's extra fixed /8 divisor. -/
def t4ExtraShift : Nat := 3

/-- `LINK_SEL`: the linking selector that means "linked to timer below". -/
def linkSel : BitVec 3 := 7

/-- `LINES`: scanlines in one DMA burst and rows of the surface. -/
def lines : Nat := 102

/-- `FLIP_ADDR_OFFSET`. -/
def flipAddrOffset : BitVec 16 := 3

/-- `MIX_SHIFT`: audio event time offsets are scaled down by 2 bits. -/
def mixShift : Nat := 2

/-- What a byte of system memory reads as that the host has not written. DESIGN CHOICE
(notes/assumptions/8.md): the spec leaves it "unspecified until written" (R179). -/
def unwrittenByte : Byte := 0

end Config

/-! ### What a model takes as configuration -/

/-- A pixel value: what `ColourMap` returns, in the host's native format of 16 or 32 bits (43_display.md R128). -/
abbrev Pixel := BitVec 32

/-- The GK and OPEN parameters of 00_scope.md R10, and 93 U9's. The two that are functions are given by their
defaults and a table of the arguments at which they differ, so that the record is plain data and yet stands for
every such function. -/
structure Params where
  /-- `LINE_BYTES` (D21): source bytes fetched per scanline. -/
  lineBytes : Nat
  /-- `REST_OFFSETS` (D22). -/
  restOffsets : List Nat
  /-- `BURST_OFFSET` (D22). -/
  burstOffset : Nat
  /-- `DISPADR_MASK` (D24). -/
  dispadrMask : BitVec 16
  /-- `RXQ_DEPTH` (D26): receive queue capacity. -/
  rxqDepth : Nat
  /-- `UART_TX_PERIOD` (D26). -/
  uartTxPeriod : Nat
  /-- `UART_RX_PERIOD` (D26). -/
  uartRxPeriod : Nat
  /-- `UART_RX_NEXT_DELAY` (D26). -/
  uartRxNextDelay : Nat
  /-- `UART_WORD_W` (D26): how many bits of a serial word the queue and the data registers hold. -/
  uartWordW : Nat
  /-- `BREAK_CODE` (D26). -/
  breakCode : SerialWord
  /-- `REBASE_THRESHOLD` (D14). -/
  rebaseThreshold : Stamp
  /-- `REBASE_DELTA` (D14). -/
  rebaseDelta : Stamp
  /-- `MIKEY_BASE` (D5): bus address of register offset 0; it matters to the host alone.
  DESIGN CHOICE (log 22, unsafe): 16 bits, a width the spec does not give. -/
  mikeyBase : BitVec 16
  /-- `HWREV` (D4). -/
  hwrev : Byte
  /-- `IO_IN` (D31): levels of the I/O pins 4 to 0 that are inputs. -/
  ioIn : BitVec 5
  /-- `MSTEREO_XOR` (D19; the alternative 0xFF is GK). -/
  mstereoXor : Byte
  /-- Whether INTSET is mapped (93_implementation_defined.md U9). -/
  intsetMapped : Bool
  /-- Where `LfsrNext` differs from its default: a waveshaper word and the 12-bit register it steps to
  (42_audio.md R100: "Only bits 11:0 change when the LFSR steps", R101; D17). -/
  lfsrTable : List (BitVec 21 × BitVec 12)
  /-- Where `ColourMap` differs from the identity: a colour index and its pixel (10_state.md R26, D25). -/
  colourTable : List (BitVec 12 × Pixel)
  deriving DecidableEq, Repr

/-- The defaults of 00_scope.md R10 (PRESUMED where GK: notes/assumptions/12.md to 18.md). -/
def Params.default : Params :=
  { lineBytes := 80, restOffsets := [2, 3, 4], burstOffset := 3, dispadrMask := 0xFFFC,
    rxqDepth := 32, uartTxPeriod := 11, uartRxPeriod := 11, uartRxNextDelay := 44, uartWordW := 16,
    breakCode := 0x8000, rebaseThreshold := 0xF0000000, rebaseDelta := 0x80000000, mikeyBase := 0xFD00,
    hwrev := 0x01, ioIn := 0b10001, mstereoXor := 0x00, intsetMapped := true, lfsrTable := [],
    colourTable := [] }

end Sys2Proof
end

