-- ==== Sys2Proof/Machine/State.lean ====
section
/-! DEFINITION. The state of the block as plain data: every field of 10_state.md R19 to R32, the two
spaces it touches (20_memory.md R36), the output trace (00_scope.md R14), and the host's side of the
interface (the model's own fields: notes/assumptions/1.md, 2.md, 3.md). -/

namespace Sys2Proof.Machine

/-- The counter record of a timer or an audio channel (10_state.md R19). `current` is kept as an
unbounded integer, which 40_update_dispatcher.md R74 allows (notes/assumptions/6.md). -/
structure Counter where
  backup : Byte
  enableCount : Bool
  enableReload : Bool
  linking : BitVec 3
  current : Int
  done : Bool
  lastClock : Stamp
  borrowIn : Bool
  borrowOut : Bool
  deriving DecidableEq, Repr

/-- A timer `T[n]` (10_state.md R19; `last_link_carry` timers only, D40). -/
structure Timer where
  ctr : Counter
  lastLinkCarry : Bool
  deriving DecidableEq, Repr

/-- An audio channel `A[c]` (10_state.md R22). `volume` and `output` are `s8` as bits. -/
structure AudioChannel where
  ctr : Counter
  volume : Byte
  output : Byte
  waveshaper : BitVec 21
  integrate : Bool
  deriving DecidableEq, Repr

/-- Chip-wide audio and mixer state (10_state.md R23, R24). -/
structure Mixer where
  atten : Vector Byte 4
  stereoEnable : Byte
  pan : Byte
  lastLeft : Int
  lastRight : Int
  mixEpoch : Stamp
  deriving DecidableEq, Repr

/-- A palette entry (10_state.md R25). -/
structure PalEntry where
  r : BitVec 4
  g : BitVec 4
  b : BitVec 4
  deriving DecidableEq, Repr

/-- Display state (10_state.md R25). -/
structure Display where
  dispAddr : BitVec 16
  dmaAddr : BitVec 16
  dmaLines : Nat
  lineCount : Byte
  outLine : Nat
  pal : Vector PalEntry 16
  dmaEnable : Bool
  flip : Bool
  fourbit : Bool
  colour : Bool
  skipFrame : Bool
  rest : Bool
  surfaceBound : Bool
  deriving DecidableEq, Repr

/-- UART state (10_state.md R27, R28). The slots of the queue are a list of length `RXQ_DEPTH`, its indices
below it (`Uart.QueueOk` of Safety.lean, an invariant of every step). -/
structure Uart where
  txActive : Bool
  txCount : Nat
  rxActive : Bool
  rxCount : Nat
  rxq : List SerialWord
  rxqIn : Nat
  rxqOut : Nat
  rxqWaiting : Nat
  txData : SerialWord
  rxData : SerialWord
  rxReady : Bool
  rxOverrun : Bool
  rxFraming : Bool
  parityEnable : Bool
  parityEven : Bool
  sendBreak : Bool
  txIrqEnable : Bool
  rxIrqEnable : Bool
  callbackBound : Bool
  deriving DecidableEq, Repr

/-- A side of the stereo mix. -/
inductive Side where
  | left
  | right
  deriving DecidableEq, Repr

/-- The kinds of non-fatal diagnostic (00_scope.md R14). -/
inductive DiagKind where
  | lineOverflow
  | powerDown
  deriving DecidableEq, Repr

/-- The output events of 00_scope.md R14. -/
inductive Event where
  | audioDelta (side : Side) (t : Stamp) (d : Int)
  | txByte (w : SerialWord)
  | diag (kind : DiagKind)
  | systemReset
  | cartAddrData (b : Bool)
  | cartBank1WriteEnable (b : Bool)
  | cartAddrStrobe (b : Bool)
  deriving DecidableEq, Repr

/-- What the host does next (notes/assumptions/1.md, 7.md): issue a command (00_scope.md R8), or write
a byte of the system memory it owns (20_memory.md R36, R48). -/
inductive HostInput where
  | command (w : CmdWord)
  | memWrite (addr : BitVec 16) (b : Byte)
  deriving DecidableEq, Repr

/-- System memory as (address, byte) cells in canonical form: addresses strictly rising, none above
0xFFFF, no entry equal to `Config.unwrittenByte` (`Memory.wf` of Machine/Ops.lean). -/
abbrev Memory := List Host.Cell

/-- The pixels the block has written to the bound surface, keyed by `row * LINE_PIXELS + column`, keys strictly
rising (43_display.md R128; a pixel not listed is as the host left it, notes/assumptions/9.md). -/
abbrev Surface := List (Nat × Pixel)

/-- The whole state. -/
structure State where
  /-- the implementation parameters (00_scope.md R10, 93 U21): configuration, written by no step
  (notes/assumptions/21.md) -/
  params : Params
  /-- `T[0]` .. `T[7]` -/
  timers : Vector Timer 8
  /-- `A[0]` .. `A[3]` -/
  audio : Vector AudioChannel 4
  mixer : Mixer
  display : Display
  uart : Uart
  intStatus : Byte
  intMask : Byte
  cycle : Stamp
  nextEvent : Stamp
  iodir : Byte
  iodat : Byte
  halt : Bool
  surface : Surface
  mem : Memory
  /-- the output trace, in program order (00_scope.md R14; notes/assumptions/3.md) -/
  events : List Event
  /-- the byte the last command returned, if it returned one (00_scope.md R8; notes/assumptions/2.md) -/
  result : Option Byte
  /-- the host's inputs not yet taken, the next one first (notes/assumptions/1.md) -/
  pending : List HostInput
  deriving DecidableEq, Repr

/-- There is no fault: "No exception-based control flow" (60_exceptions.md R166, R171). The type has no
constructor, so no claim can rest on a stop the spec does not have (safe). -/
inductive Fault where
  deriving DecidableEq, Repr

/-- The reasons a step gives an input no meaning. -/
inductive Refusal where
  /-- Raised by `exec` for an instruction that has no meaning yet (none is left); safe. -/
  | notModelled (mnemonic : String)
  /-- Raised by `step` on a command word of class 0xA to 0xF: "a model refuses the word"
  (30_encoding.md R51, R63; 93 U4); safe. -/
  | reservedClass (cls : BitVec 4)
  deriving DecidableEq, Repr

/-- A counter after reset: stopped, clocked mode with shift 4, not done (70_reset_and_hazards.md R179). -/
def Counter.zero : Counter :=
  { backup := 0, enableCount := false, enableReload := false, linking := 0, current := 0, done := false,
    lastClock := 0, borrowIn := false, borrowOut := false }

/-- A timer after reset (R179). -/
def Timer.zero : Timer := { ctr := Counter.zero, lastLinkCarry := false }

/-- An audio channel after reset: silent, all LFSR switches off (R179). -/
def AudioChannel.zero : AudioChannel :=
  { ctr := Counter.zero, volume := 0, output := 0, waveshaper := 0, integrate := false }

/-- The mixer after reset: no channel feeds either side (R179). -/
def Mixer.zero : Mixer :=
  { atten := Vector.replicate 4 0, stereoEnable := 0, pan := 0, lastLeft := 0, lastRight := 0,
    mixEpoch := 0 }

/-- The display after reset: no burst, DMA off, no surface bound (R179). -/
def Display.zero : Display :=
  { dispAddr := 0, dmaAddr := 0, dmaLines := 0, lineCount := 0, outLine := 0,
    pal := Vector.replicate 16 { r := 0, g := 0, b := 0 }, dmaEnable := false, flip := false,
    fourbit := false, colour := false, skipFrame := false, rest := false, surfaceBound := false }

/-- The UART after reset: both countdowns inactive, queue empty, no callback (R179). -/
def Uart.zero (p : Params) : Uart :=
  { txActive := false, txCount := 0, rxActive := false, rxCount := 0,
    rxq := List.replicate p.rxqDepth 0, rxqIn := 0, rxqOut := 0, rxqWaiting := 0, txData := 0,
    rxData := 0, rxReady := false, rxOverrun := false, rxFraming := false, parityEnable := false,
    parityEven := false, sendBreak := false, txIrqEnable := false, rxIrqEnable := false,
    callbackBound := false }

/-- The block after power-on and reset (R179): every field zero. `cycle` is the host's and its power-on
value a free input: 0 here by DESIGN CHOICE (notes/assumptions/4.md); `halt` is 0 at power-on (R32). The
parameters stand at the defaults of 00_scope.md R10. -/
def State.reset : State :=
  { params := Params.default, timers := Vector.replicate 8 Timer.zero,
    audio := Vector.replicate 4 AudioChannel.zero, mixer := Mixer.zero, display := Display.zero,
    uart := Uart.zero Params.default, intStatus := 0, intMask := 0,
    cycle := 0, nextEvent := 0, iodir := 0, iodat := 0, halt := false, surface := [], mem := [],
    events := [], result := none, pending := [] }

end Sys2Proof.Machine
end

