-- ==== Sys2Proof/Machine/Operands.lean ====
section
/-! DEFINITION. Operand assembly: how a written byte becomes a field and a field a read byte
(30_encoding.md R55 to R62). The bit positions are the spec's layouts, from general knowledge of the chip
(D3; notes/assumptions/10.md). -/

namespace Sys2Proof

/-! ### Values read off the parameters (00_scope.md R10) -/

/-- `LINE_PIXELS`: "each source byte yields two pixels" (R10). -/
def Params.linePixels (p : Params) : Nat := 2 * p.lineBytes

/-- `ColourMap` (R10, D25). -/
def Params.colourMap (p : Params) (index : BitVec 12) : Pixel :=
  (p.colourTable.lookup index).getD (index.setWidth 32)

/-- A serial word as the queue and the data registers hold it: its low `UART_WORD_W` bits. The widest word that
can reach the block is RXINJECT's 16-bit operand (44_uart.md R142, R149). -/
def Params.word (p : Params) (w : SerialWord) : SerialWord := (w.setWidth p.uartWordW).setWidth 16

/-- `BREAK_CODE` as the registers hold it. -/
def Params.breakWord (p : Params) : SerialWord := p.word p.breakCode

end Sys2Proof

namespace Sys2Proof.Machine

/-! ### Fields and bytes -/

/-- The register offset of a full bus address: `off = address[7:0]` (20_memory.md R37, 30_encoding.md R52).
DESIGN CHOICE (log 22, safe): a full bus address has 16 bits; the spec gives it no width. -/
def busOffset (address : BitVec 16) : Byte := address.extractLsb' 0 8

/-- The bus address of register offset `off` (20_memory.md R37, `MIKEY_BASE`).
DESIGN CHOICE (log 22, unsafe): the spec gives a full bus address no width; here it has 16 bits, so the sum wraps
modulo 2^16. -/
def busAddress (p : Params) (off : Byte) : BitVec 16 := p.mikeyBase + off.setWidth 16

/-- A byte from its bits, bit 7 first. -/
def byteOfBits (b7 b6 b5 b4 b3 b2 b1 b0 : Bool) : Byte :=
  BitVec.ofBool b7 ++ BitVec.ofBool b6 ++ BitVec.ofBool b5 ++ BitVec.ofBool b4 ++
    BitVec.ofBool b3 ++ BitVec.ofBool b2 ++ BitVec.ofBool b1 ++ BitVec.ofBool b0

/-- A count register write: `zext_32(val)`, 0 to 255 (R62). -/
def countOfByte (val : Byte) : Int := (val.toNat : Int)

/-- A count register read: `u8(current)`, also when `current` is negative (R62). -/
def byteOfCount (current : Int) : Byte := u8 current

/-- TIMnCTLA as read: `{int_mask[n], 0, 0, enable_reload, enable_count, linking}` (R55, 41_timers.md R94). -/
def ctlaByte (irqEnable : Bool) (x : Counter) : Byte :=
  BitVec.ofBool irqEnable ++ 0#2 ++ BitVec.ofBool x.enableReload ++ BitVec.ofBool x.enableCount ++ x.linking

/-- The reload, count and linking fields a control byte writes (R55, R56: bits 4, 3 and 2:0). -/
def Counter.writeControl (x : Counter) (val : Byte) : Counter :=
  { x with enableReload := val.getLsbD 4, enableCount := val.getLsbD 3, linking := val.extractLsb' 0 3 }

/-- The RESET_DONE strobe, bit 6 of a control byte: a written 1 clears `done` (R55, R56). -/
def Counter.strobeDone (x : Counter) (val : Byte) : Counter :=
  if val.getLsbD 6 then { x with done := false } else x

/-- A control write that re-arms (bit 6) or enables (bit 3) restarts the tick phase
(41_timers.md R95, 42_audio.md R117; GK, notes/assumptions/11.md). -/
def Counter.restartPhase (x : Counter) (val : Byte) (cycle : Stamp) : Counter :=
  if val.getLsbD 6 || val.getLsbD 3 then { x with lastClock := cycle } else x

/-- The counter part of a control register write (41_timers.md R95, 42_audio.md R117). -/
def Counter.control (x : Counter) (val : Byte) (cycle : Stamp) : Counter :=
  ((x.writeControl val).strobeDone val).restartPhase val cycle

/-- TIMnCTLB as read: `{0, 0, 0, 0, done, 0, borrow_in, borrow_out}` (R55, 41_timers.md R98). -/
def ctlbByte (x : Counter) : Byte := byteOfBits false false false false x.done false x.borrowIn x.borrowOut

/-- AUDcCTL as read: `{waveshaper[12], 0, integrate, enable_reload, enable_count, linking}`
(R56, 42_audio.md R116). -/
def audCtlByte (a : AudioChannel) : Byte :=
  BitVec.ofBool (a.waveshaper.getLsbD 12) ++ 0#1 ++ BitVec.ofBool a.integrate ++
    BitVec.ofBool a.ctr.enableReload ++ BitVec.ofBool a.ctr.enableCount ++ a.ctr.linking

/-- AUDcMISC as read: `{waveshaper[11:8], 0, 0, borrow_in, borrow_out}` (R56, 42_audio.md R120). -/
def audMiscByte (a : AudioChannel) : Byte :=
  a.waveshaper.extractLsb' 8 4 ++ 0#2 ++ BitVec.ofBool a.ctr.borrowIn ++ BitVec.ofBool a.ctr.borrowOut

/-- AUDcSHFTFB writes `waveshaper[20:13]` and keeps bits 12:0 (42_audio.md R109). -/
def waveSetHigh (w : BitVec 21) (val : Byte) : BitVec 21 := (w &&& 0x001FFF) ||| (val.setWidth 21 <<< 13)

/-- AUDcL8SHFT writes `waveshaper[7:0]` and keeps bits 20:8 (42_audio.md R113). -/
def waveSetLow (w : BitVec 21) (val : Byte) : BitVec 21 := (w &&& 0x1FFF00) ||| val.setWidth 21

/-- AUDcMISC writes `waveshaper[11:8]` from `val[7:4]` and keeps the rest (42_audio.md R121). -/
def waveSetMid (w : BitVec 21) (val : Byte) : BitVec 21 :=
  (w &&& 0x1FF0FF) ||| ((val.extractLsb' 4 4).setWidth 21 <<< 8)

/-- AUDcCTL writes `waveshaper[12]` from `val[7]` and keeps the rest (42_audio.md R117). -/
def waveSetFeedback7 (w : BitVec 21) (val : Byte) : BitVec 21 :=
  (w &&& 0x1FEFFF) ||| ((val.extractLsb' 7 1).setWidth 21 <<< 12)

/-- DISPADRL replaces bits 7:0 (43_display.md R136). -/
def addrSetLow (adr : BitVec 16) (val : Byte) : BitVec 16 := adr.extractLsb' 8 8 ++ val

/-- DISPADRH replaces bits 15:8 (43_display.md R137). -/
def addrSetHigh (adr : BitVec 16) (val : Byte) : BitVec 16 := val ++ adr.extractLsb' 0 8

/-- The colour index `{r, g, b}` of a palette entry (R62). -/
def PalEntry.index (p : PalEntry) : BitVec 12 := p.r ++ p.g ++ p.b

/-- GREENi as read (43_display.md R138). -/
def greenByte (p : PalEntry) : Byte := p.g.setWidth 8

/-- BLUEREDi as read: `{b, r}` (43_display.md R140). -/
def blueredByte (p : PalEntry) : Byte := p.b ++ p.r

/-- GREENi as written: bits 3:0, bits 7:4 ignored (43_display.md R139). -/
def PalEntry.writeGreen (p : PalEntry) (val : Byte) : PalEntry := { p with g := val.extractLsb' 0 4 }

/-- BLUEREDi as written: bits 7:4 blue, bits 3:0 red (43_display.md R141). -/
def PalEntry.writeBluered (p : PalEntry) (val : Byte) : PalEntry :=
  { p with b := val.extractLsb' 4 4, r := val.extractLsb' 0 4 }

/-- A serial word written by software: parity and break bits 0 (R62, 44_uart.md R142). -/
def serialOfByte (p : Params) (val : Byte) : SerialWord := p.word (val.setWidth 16)

/-- SERDAT as read: `rx_data[7:0]` (44_uart.md R153). -/
def byteOfSerial (w : SerialWord) : Byte := w.extractLsb' 0 8

/-- MSTEREO's register byte against the enable mask, either way (42_audio.md R126, R127). -/
def mstereoByte (p : Params) (v : Byte) : Byte := v ^^^ p.mstereoXor

/-- The left attenuation nibble in place: `atten AND 0xF0`, 0 to 240 (R57, 42_audio.md R104). -/
def attenLeft (v : Byte) : Int := ((v &&& 0xF0).toNat : Int)

/-- The right attenuation nibble: `atten AND 0x0F`, 0 to 15 (R57, 42_audio.md R104). -/
def attenRight (v : Byte) : Int := ((v &&& 0x0F).toNat : Int)

end Sys2Proof.Machine
end

