-- ==== Sys2Proof/Machine/Flags.lean ====
section
/-! DEFINITION. The flag computations of the block: the counting gate, borrow flags, the
interrupt-status register and the request line, the serial level and the status byte, REST and the pin
view (10_state.md R33, 60_exceptions.md R168, R169). -/

namespace Sys2Proof.Machine

/-- The counting gate: `enable_count AND (enable_reload OR NOT done)` (40_update_dispatcher.md R70, D6). -/
def Counter.counting (x : Counter) : Bool := x.enableCount && (x.enableReload || !x.done)

/-- A counter that does not count or got no tick in this pass clears both borrow flags (R71, D7). -/
def Counter.idle (x : Counter) : Counter := { x with borrowIn := false, borrowOut := false }

/-- `int_status[k] <- 1`: the one way a source raises an interrupt (60_exceptions.md R168). -/
def State.raiseInt (s : State) (k : Nat) : State := { s with intStatus := s.intStatus ||| (1#8 <<< k) }

/-- `if int_mask[k] = 1 then int_status[k] <- 1`: the mask gates the setting of a bit (41_timers.md R83,
60_exceptions.md R168). -/
def State.raiseIfEnabled (s : State) (k : Nat) : State :=
  if s.intMask.getLsbD k then s.raiseInt k else s

/-- The request line to the host CPU, a level (60_exceptions.md R169). -/
def irqLine (s : State) : Bool := s.intStatus != 0

/-- The level the serial engine asserts for as long as it holds (44_uart.md R147). -/
def Uart.irqLevel (u : Uart) : Bool := (u.txIrqEnable && !u.txActive) || (u.rxIrqEnable && u.rxReady)

/-- SERCTL as read (30_encoding.md R60, 44_uart.md R151). -/
def serctlByte (u : Uart) : Byte :=
  byteOfBits (!u.txActive) u.rxReady (!u.txActive) false u.rxOverrun u.rxFraming
    (u.rxData.getLsbD 15) (u.rxData.getLsbD 8)

/-- The error flags a SERCTL write with RESETERR (bit 3) clears (44_uart.md R152). -/
def Uart.resetErrors (u : Uart) (val : Byte) : Uart :=
  if val.getLsbD 3 then { u with rxOverrun := false, rxFraming := false } else u

/-- REST: `line_count` equals `B` minus one of `REST_OFFSETS`, by default `B - 2`, `B - 3` or `B - 4`, in
unbounded integers (43_display.md R131 (b), D22). -/
def restWindow (p : Params) (lineCount backup : Byte) : Bool :=
  p.restOffsets.any fun k => decide (lineCount.toNat + k = backup.toNat)

/-- One pin of the I/O port: the output latch where the pin is an output, else the input level
(45_system_registers.md R163). -/
def pinLevel (p : Params) (iodir driven : Byte) (k : Nat) : Bool :=
  if iodir.getLsbD k then driven.getLsbD k else p.ioIn.getLsbD k

/-- The REST pin: as an output it reads 0 exactly when software drives 1 and `rest` is latched true
(45_system_registers.md R163). -/
def restPin (p : Params) (iodir iodat : Byte) (rest : Bool) : Bool :=
  if iodir.getLsbD 3 then !(iodat.getLsbD 3 && rest) else p.ioIn.getLsbD 3

/-- IODAT as read: `{0, 0, 0, b4, b3, b2, b1, b0}` (45_system_registers.md R163). -/
def iodatByte (p : Params) (iodir iodat : Byte) (rest : Bool) : Byte :=
  byteOfBits false false false (pinLevel p iodir iodat 4) (restPin p iodir iodat rest)
    (pinLevel p iodir iodat 2) (pinLevel p iodir iodat 1) (pinLevel p iodir iodat 0)

end Sys2Proof.Machine
end

