-- ==== Sys2Proof/Machine/Ops.lean ====
section
/-! DEFINITION. The named operations over memory, the surface, the counters and the interface of the
block, and the reset of its state. The block takes no exception and returns from none (60_exceptions.md
R166, R171); what it does instead of an entry is `State.raiseInt` (Machine/Flags.lean), and the one fatal
condition is `powerDown`. -/

namespace Sys2Proof.Machine

/-! ### Sorted cells: the form shared by memory and the surface -/

/-- The entry at a key. -/
def cellGet {α : Type} (k : Nat) : List (Nat × α) → Option α
  | [] => none
  | (k', v) :: rest => if k = k' then some v else cellGet k rest

/-- Put an entry, keeping the keys strictly rising. -/
def cellPut {α : Type} (k : Nat) (v : α) : List (Nat × α) → List (Nat × α)
  | [] => [(k, v)]
  | (k', v') :: rest =>
    if k < k' then (k, v) :: (k', v') :: rest
    else if k = k' then (k, v) :: rest
    else (k', v') :: cellPut k v rest

/-- Remove the entry at a key. -/
def cellDrop {α : Type} (k : Nat) : List (Nat × α) → List (Nat × α)
  | [] => []
  | (k', v') :: rest => if k = k' then rest else (k', v') :: cellDrop k rest

/-- Every key of the list is above `k`, and the keys rise strictly. -/
def risingAbove {α : Type} (k : Nat) : List (Nat × α) → Bool
  | [] => true
  | (k', _) :: rest => decide (k < k') && risingAbove k' rest

/-- The keys rise strictly. -/
def rising {α : Type} : List (Nat × α) → Bool
  | [] => true
  | (k', _) :: rest => risingAbove k' rest

/-! ### System memory (20_memory.md R36; 00_scope.md R13) -/

/-- `MemRead(addr, 1)`: no side effect (R13). -/
def Memory.read (m : Memory) (addr : BitVec 16) : Byte := (cellGet addr.toNat m).getD Config.unwrittenByte

/-- A host write to the memory it owns; the block itself never writes memory (R13). Writing the value an
unlisted byte reads as removes the entry. -/
def Memory.write (m : Memory) (addr : BitVec 16) (b : Byte) : Memory :=
  if b = Config.unwrittenByte then cellDrop addr.toNat m else cellPut addr.toNat b m

/-- The canonical form: addresses strictly rising and below 2^16, no entry equal to what an unlisted byte
reads as. -/
def Memory.wf (m : Memory) : Bool :=
  rising m && m.all fun c => decide (c.1 < 65536) && c.2 != Config.unwrittenByte

/-! ### The destination surface (43_display.md R128) -/

/-- The key of a pixel. -/
def surfaceKey (p : Params) (row col : Nat) : Nat := row * p.linePixels + col

/-- `SurfWrite(row, col, px)` (00_scope.md R13). -/
def Surface.write (p : Params) (f : Surface) (row col : Nat) (px : Pixel) : Surface :=
  cellPut (surfaceKey p row col) px f

/-- The pixel the block has written at a position, if it has written one. -/
def Surface.read (p : Params) (f : Surface) (row col : Nat) : Option Pixel := cellGet (surfaceKey p row col) f

/-- The canonical form: keys strictly rising, all within `LINES` rows of `LINE_PIXELS` columns. -/
def Surface.wf (p : Params) (f : Surface) : Bool :=
  rising f && f.all fun c => decide (c.1 < Config.lines * p.linePixels)

/-! ### Registers: the one home of each access -/

/-- The twelve counters (10_state.md R19). -/
inductive CounterRef where
  | timer (n : Fin 8)
  | audio (c : Fin 4)
  deriving DecidableEq, Repr

/-- `T[n]` (00_scope.md R12). -/
def State.timer (s : State) (n : Fin 8) : Timer := s.timers[n]

/-- `T[n] <- t`. -/
def State.setTimer (s : State) (n : Fin 8) (t : Timer) : State := { s with timers := s.timers.set n t }

/-- `A[c]` (00_scope.md R12). -/
def State.channel (s : State) (c : Fin 4) : AudioChannel := s.audio[c]

/-- `A[c] <- a`. -/
def State.setChannel (s : State) (c : Fin 4) (a : AudioChannel) : State := { s with audio := s.audio.set c a }

/-- The counter record of a timer or channel (10_state.md R19). -/
def State.counter (s : State) : CounterRef → Counter
  | .timer n => (s.timer n).ctr
  | .audio c => (s.channel c).ctr

/-- Write the counter record of a timer or channel. -/
def State.setCounter (s : State) (ref : CounterRef) (x : Counter) : State :=
  match ref with
  | .timer n => s.setTimer n { s.timer n with ctr := x }
  | .audio c => s.setChannel c { s.channel c with ctr := x }

/-- `X.last_link_carry <- src`, timers only (40_update_dispatcher.md R71, D40). -/
def State.setLinkCarry (s : State) (ref : CounterRef) (src : Bool) : State :=
  match ref with
  | .timer n => s.setTimer n { s.timer n with lastLinkCarry := src }
  | .audio _ => s

/-- The pixel the block has written at a row and column of the surface, if it has written one. -/
def State.pixelAt (s : State) (row col : Nat) : Option Pixel := Surface.read s.params s.surface row col

/-- Palette entry `pal[i]` (10_state.md R25). -/
def State.palEntry (s : State) (i : Fin 16) : PalEntry := s.display.pal[i]

/-- `pal[i] <- p`. -/
def State.setPalEntry (s : State) (i : Fin 16) (p : PalEntry) : State :=
  { s with display := { s.display with pal := s.display.pal.set i p } }

/-- `atten[c]` (10_state.md R23). -/
def State.attenuation (s : State) (c : Fin 4) : Byte := s.mixer.atten[c]

/-- `atten[c] <- v`. -/
def State.setAttenuation (s : State) (c : Fin 4) (v : Byte) : State :=
  { s with mixer := { s.mixer with atten := s.mixer.atten.set c v } }

/-- `int_mask[n] <- b` (10_state.md R29). -/
def State.setIntMask (s : State) (n : Fin 8) (b : Bool) : State :=
  { s with
    intMask := (s.intMask &&& ~~~(1#8 <<< n.val)) ||| ((BitVec.ofBool b).setWidth 8 <<< n.val) }

/-! ### The interface -/

/-- `emit E`: append to the output trace; no other state changes (00_scope.md R14). -/
def State.emit (s : State) (e : Event) : State := { s with events := s.events ++ [e] }

/-- The byte a command returns to the host (00_scope.md R8). -/
def State.returnByte (s : State) (b : Byte) : State := { s with result := some b }

/-- `next_event <- cycle`: the host must issue UPDATE next (40_update_dispatcher.md R77). -/
def State.reschedule (s : State) : State := { s with nextEvent := s.cycle }

/-- The next input of the host and the state with that input taken: nothing is returned yet
(notes/assumptions/1.md, 2.md). -/
def State.takeInput (s : State) : Option (HostInput × State) :=
  match s.pending with
  | [] => none
  | h :: rest => some (h, { s with pending := rest, result := none })

/-- A byte the host writes to its memory between commands (20_memory.md R48). -/
def State.hostMemWrite (s : State) (addr : BitVec 16) (b : Byte) : State :=
  { s with mem := Memory.write s.mem addr b }

/-! ### Reset and power-down -/

/-- `ResetState()` (70_reset_and_hazards.md R179): every field of the block zero; `cycle` and `halt`, the
surface, system memory, the parameters and the host's side are not the block's to clear. -/
def resetState (s : State) : State :=
  { s with
    timers := Vector.replicate 8 Timer.zero, audio := Vector.replicate 4 AudioChannel.zero,
    mixer := Mixer.zero, display := Display.zero, uart := Uart.zero s.params, intStatus := 0, intMask := 0,
    nextEvent := 0, iodir := 0, iodat := 0 }

/-- The power-down part of a SYSCTL1 write: reset, the two events, then `halt`, which survives the reset
(45_system_registers.md R160, 10_state.md R32). -/
def powerDown (s : State) : State :=
  let s1 := ((resetState s).emit .systemReset).emit (.diag .powerDown)
  { s1 with halt := true }

end Sys2Proof.Machine
end

