-- ==== Sys2Proof/Machine/CounterEngine.lean ====
section
/-! DEFINITION. The generic counter step and the next-event prediction shared by the eight timers and
the four audio channels (40_update_dispatcher.md R70 to R76). -/

namespace Sys2Proof.Machine

/-- The shift of a clocked counter: `sh + linking` (R71). -/
def Counter.shift (x : Counter) (sh : Nat) : Nat := sh + x.linking.toNat

/-- `((cycle - last_clock) mod 2^32) >> s` (R71). -/
def Counter.elapsedTicks (x : Counter) (cycle : Stamp) (sh : Nat) : Stamp :=
  (cycle - x.lastClock) >>> x.shift sh

/-- `last_clock <- (last_clock + (ticks << s)) mod 2^32` (R71). -/
def Counter.sync (x : Counter) (ticks : Stamp) (sh : Nat) : Counter :=
  { x with lastClock := x.lastClock + ticks <<< x.shift sh }

/-- `current <- current - ticks ; borrow_in <- 1` (R71). -/
def Counter.tick (x : Counter) (ticks : Stamp) : Counter :=
  { x with current := x.current - (ticks.toNat : Int), borrowIn := true }

/-- The reload of a generic counter: `backup + 1` is added without wrapping, or the count stops at 0;
`done` is set either way (R71, D6). -/
def Counter.reloadOrClamp (x : Counter) : Counter :=
  { x with
    current := if x.enableReload then x.current + (x.backup.toNat : Int) + 1 else 0
    done := true }

/-- Timer 0's reload: always (41_timers.md R84, D8). -/
def Counter.reloadAlways (x : Counter) : Counter :=
  { x with current := x.current + (x.backup.toNat : Int) + 1, done := true }

/-- The tail of a counter's step (R71, R84): no tick clears the borrow flags; otherwise the ticks are
subtracted at once and the sign tested once, so a pass underflows a counter at most once (R72). On
underflow `borrow_out` is set and the counter's action runs BEFORE the reload. -/
def consumeTicks (ref : CounterRef) (ticks : Stamp) (reload : Counter → Counter)
    (onUnderflow : State → State) (s : State) : State :=
  if ticks = 0#32 then s.setCounter ref (s.counter ref).idle
  else
    let x := (s.counter ref).tick ticks
    if x.current < 0 then
      let s1 := onUnderflow (s.setCounter ref { x with borrowOut := true })
      s1.setCounter ref (reload (s1.counter ref))
    else s.setCounter ref { x with borrowOut := false }

/-- `CounterStep(X, linkable, src, sh, OnUnderflow)` (R71). -/
def counterStep (ref : CounterRef) (linkable src : Bool) (sh : Nat) (onUnderflow : State → State)
    (s : State) : State :=
  let x := s.counter ref
  if x.counting then
    if linkable && x.linking == Config.linkSel then
      consumeTicks ref (if src then 1 else 0) Counter.reloadOrClamp onUnderflow (s.setLinkCarry ref src)
    else
      let ticks := x.elapsedTicks s.cycle sh
      consumeTicks ref ticks Counter.reloadOrClamp onUnderflow (s.setCounter ref (x.sync ticks sh))
  else s.setCounter ref x.idle

/-- Whether `Predict` takes the counter as counting: Timer 0 by `enable_count` alone (R76). -/
def State.predictCounting (s : State) (ref : CounterRef) : Bool :=
  if ref = .timer 0 then (s.counter ref).enableCount else (s.counter ref).counting

/-- Whether `Predict` takes the counter as clocked: Timers 0 and 6 whatever their selector (R76). -/
def State.predictClocked (s : State) (ref : CounterRef) : Bool :=
  ref == .timer 0 || ref == .timer 6 || (s.counter ref).linking != Config.linkSel

/-- Ticks until the next underflow: `(current < 0) ? 1 : current + 1` (R76). -/
def Counter.ticksToUnderflow (x : Counter) : Nat := if x.current < 0 then 1 else (x.current + 1).toNat

/-- `t <- (last_clock + (k << s)) mod 2^32` (R76, D12). -/
def Counter.nextUnderflow (x : Counter) (sh : Nat) : Stamp :=
  x.lastClock + BitVec.ofNat 32 (x.ticksToUnderflow <<< x.shift sh)

/-- `if t < next_event then next_event <- t`, unsigned (R76). -/
def State.publish (s : State) (t : Stamp) : State := if t < s.nextEvent then { s with nextEvent := t } else s

/-- `Predict(X, sh)` (R76). -/
def predict (ref : CounterRef) (sh : Nat) (s : State) : State :=
  if s.predictCounting ref && s.predictClocked ref then s.publish ((s.counter ref).nextUnderflow sh) else s

/-- `X.last_clock <- X.last_clock - REBASE_DELTA` (R69). -/
def Counter.rebase (x : Counter) (delta : Stamp) : Counter := { x with lastClock := x.lastClock - delta }

/-- `Rebase()` (R69): the master counter and the twelve stamps; neither `mix_epoch` nor `next_event`. -/
def rebase (s : State) : State :=
  { s with
    cycle := s.cycle - s.params.rebaseDelta
    timers := s.timers.map fun t => { t with ctr := t.ctr.rebase s.params.rebaseDelta }
    audio := s.audio.map fun a => { a with ctr := a.ctr.rebase s.params.rebaseDelta } }

end Sys2Proof.Machine
end

