-- ==== Sys2Proof/Machine/AudioEngine.lean ====
section
/-! DEFINITION. The audio engine: the LFSR stepper, the output rule, the stereo mixer and the channel
step (42_audio.md R100 to R104). -/

namespace Sys2Proof.Machine

/-- `TAP[0..8]`: the LFSR bit each feedback switch selects (42_audio.md R101, GK D17). -/
def lfsrTaps : List Nat := [7, 0, 1, 2, 3, 4, 5, 10, 11]

/-- The feedback: XOR of the tapped bits whose switch, `waveshaper[12 + i]`, is on (R100, R101). -/
def lfsrFeedback (w : BitVec 21) : Bool :=
  lfsrTaps.zipIdx.foldl (fun fb t => fb ^^ (w.getLsbD (12 + t.2) && w.getLsbD t.1)) false

/-- The 12-bit register after one step of the default `LfsrNext` (R101, GK D17; notes/assumptions/12.md): it
shifts left and the inverted feedback enters at bit 0. -/
def lfsrShift (w : BitVec 21) : BitVec 12 :=
  ((w.extractLsb' 0 12 <<< 1) &&& 0xFFE#12) ||| (if lfsrFeedback w then 0#12 else 1#12)

/-- `LfsrNext`, the parameter of 00_scope.md R10: its default but where the table says otherwise (R101); the
switches stay in any case (R100). -/
def lfsrNext (p : Params) (w : BitVec 21) : BitVec 21 :=
  w.extractLsb' 12 9 ++ (p.lfsrTable.lookup w).getD (lfsrShift w)

/-- `UpdateOutput(c)` on a channel (R103): bit 0 of the waveshaper selects `+volume` (GK D18); integrate
mode clamps the unbounded sum, the other mode negates in 8 bits. -/
def AudioChannel.updateOutput (a : AudioChannel) : AudioChannel :=
  let b := a.waveshaper.getLsbD 0
  if a.integrate then
    let t := if b then s8 a.output + s8 a.volume else s8 a.output - s8 a.volume
    { a with output := u8 (clamp t (-128) 127) }
  else { a with output := if b then a.volume else -a.volume }

/-- The LFSR step of an underflow: only if `backup` or `linking` is nonzero (R102). -/
def AudioChannel.stepLfsr (a : AudioChannel) (p : Params) : AudioChannel :=
  if a.ctr.backup ≠ 0 ∨ a.ctr.linking ≠ 0 then { a with waveshaper := lfsrNext p a.waveshaper } else a

/-- What channel `c` adds to the left sum (R104; the divisor 256 is the source's). -/
def State.leftTerm (s : State) (c : Fin 4) : Int :=
  let o := s8 (s.channel c).output
  if s.mixer.stereoEnable.getLsbD (4 + c.val) then
    if s.mixer.pan.getLsbD (4 + c.val) then (o * attenLeft (s.attenuation c)).tdiv 256 else o
  else 0

/-- What channel `c` adds to the right sum (R104; the divisor 16 is the source's). -/
def State.rightTerm (s : State) (c : Fin 4) : Int :=
  let o := s8 (s.channel c).output
  if s.mixer.stereoEnable.getLsbD c.val then
    if s.mixer.pan.getLsbD c.val then (o * attenRight (s.attenuation c)).tdiv 16 else o
  else 0

/-- The left sum of the four channels (R104). -/
def State.leftSum (s : State) : Int := s.leftTerm 0 + s.leftTerm 1 + s.leftTerm 2 + s.leftTerm 3

/-- The right sum of the four channels (R104). -/
def State.rightSum (s : State) : Int := s.rightTerm 0 + s.rightTerm 1 + s.rightTerm 2 + s.rightTerm 3

/-- The time offset of an audio event: `((cycle - mix_epoch) mod 2^32) >> 2` (R104, D20). -/
def State.mixTime (s : State) : Stamp := (s.cycle - s.mixer.mixEpoch) >>> Config.mixShift

/-- One side of `Mix`: a nonzero delta is emitted and the sum remembered (R104). -/
def mixLeft (s : State) : State :=
  if s.leftSum ≠ s.mixer.lastLeft then
    { s.emit (.audioDelta .left s.mixTime (s.leftSum - s.mixer.lastLeft)) with
      mixer := { s.mixer with lastLeft := s.leftSum } }
  else s

/-- The other side of `Mix` (R104). -/
def mixRight (s : State) : State :=
  if s.rightSum ≠ s.mixer.lastRight then
    { s.emit (.audioDelta .right s.mixTime (s.rightSum - s.mixer.lastRight)) with
      mixer := { s.mixer with lastRight := s.rightSum } }
  else s

/-- `Mix()`: left before right (R104, D19). -/
def mix (s : State) : State := mixRight (mixLeft s)

/-- `AudioUnderflow(c)` (R102): LFSR, output, mix. -/
def audioUnderflow (c : Fin 4) (s : State) : State :=
  mix (s.setChannel c ((s.channel c).stepLfsr s.params).updateOutput)

/-- The link source of a channel: Timer 7 for channel 0, else the channel below (R102). -/
def State.audioSource (s : State) (c : Fin 4) : Bool :=
  if c = 0 then (s.timer 7).ctr.borrowOut else (s.channel (c - 1)).ctr.borrowOut

/-- `StepAudio(c)` (R102). -/
def stepAudio (c : Fin 4) (s : State) : State :=
  counterStep (.audio c) true (s.audioSource c) Config.baseShift (audioUnderflow c) s

end Sys2Proof.Machine
end

