-- ==== Sys2Proof/Machine/DisplayEngine.lean ====
section
/-! DEFINITION. The display DMA engine: the line strobe, the scanline copy and the frame strobe
(43_display.md R131 to R133). -/

namespace Sys2Proof.Machine

/-- The pixel of palette entry `p`: `ColourMap({r, g, b})` (43_display.md R132). -/
def State.pixelOf (s : State) (p : BitVec 4) : Pixel := s.params.colourMap (s.palEntry p.toFin).index

/-- The palette indices of the two pixels of a source byte, left one first: high nibble first unless
flipped (R132, 20_memory.md R38; GK D21). -/
def pixelPair (flip : Bool) (b : Byte) : BitVec 4 × BitVec 4 :=
  if flip then (b.extractLsb' 0 4, b.extractLsb' 4 4) else (b.extractLsb' 4 4, b.extractLsb' 0 4)

/-- One turn of `CopyLine`'s loop (R132): fetch, move `dma_addr` by one modulo 2^16, write columns `2j`
and `2j + 1` of the row. -/
def copyByte (j : Nat) (s : State) : State :=
  let b := Memory.read s.mem s.display.dmaAddr
  let dmaAddr := if s.display.flip then s.display.dmaAddr - 1 else s.display.dmaAddr + 1
  let p := pixelPair s.display.flip b
  { s with
    display := { s.display with dmaAddr := dmaAddr }
    surface :=
      Surface.write s.params
        (Surface.write s.params s.surface s.display.outLine (2 * j) (s.pixelOf p.1))
        s.display.outLine (2 * j + 1) (s.pixelOf p.2) }

/-- `n` turns of the loop from turn `j` on. -/
def copyBytes : Nat → Nat → State → State
  | 0, _, s => s
  | n + 1, j, s => copyBytes n (j + 1) (copyByte j s)

/-- `CopyLine()`: `LINE_BYTES` turns (R132). -/
def copyLine (s : State) : State := copyBytes s.params.lineBytes 0 s

/-- A skipped line moves `dma_addr` by a whole line (R131, D23). -/
def skipLine (s : State) : State :=
  let step := BitVec.ofNat 16 s.params.lineBytes
  { s with
    display :=
      { s.display with
        dmaAddr := if s.display.flip then s.display.dmaAddr - step else s.display.dmaAddr + step } }

/-- (b) compute and latch REST from `line_count` and Timer 2's backup (R131). -/
def latchRest (s : State) : State :=
  { s with
    display := { s.display with rest := restWindow s.params s.display.lineCount (s.timer 2).ctr.backup } }

/-- The start address of a burst: masked, +3 when flipped (R131, 20_memory.md R39). -/
def burstAddr (p : Params) (dispAddr : BitVec 16) (flip : Bool) : BitVec 16 :=
  let adr := dispAddr &&& p.dispadrMask
  if flip then adr + Config.flipAddrOffset else adr

/-- (c) arm the burst when `line_count = B - BURST_OFFSET` in unbounded integers (R131, D22). -/
def armBurst (s : State) : State :=
  if s.display.lineCount.toNat + s.params.burstOffset = (s.timer 2).ctr.backup.toNat then
    { s with
      display :=
        { s.display with
          dmaAddr := burstAddr s.params s.display.dispAddr s.display.flip, dmaLines := Config.lines } }
  else s

/-- (d) `if line_count > 0 then line_count <- line_count - 1` (R131). -/
def countLine (s : State) : State :=
  if 0 < s.display.lineCount.toNat then
    { s with display := { s.display with lineCount := s.display.lineCount - 1 } }
  else s

/-- The burst part of the strobe: count the burst down; past the last row emit the diagnostic and write
nothing; else copy or skip the line and move to the next row (R131, D23). -/
def drawLine (s : State) : State :=
  if 0 < s.display.dmaLines then
    let s1 := { s with display := { s.display with dmaLines := s.display.dmaLines - 1 } }
    if Config.lines ≤ s1.display.outLine then s1.emit (.diag .lineOverflow)
    else
      let s2 := if s1.display.skipFrame then skipLine s1 else copyLine s1
      { s2 with display := { s2.display with outLine := s2.display.outLine + 1 } }
  else s

/-- `DisplayRenderLine()` (R131): a no-op unless a surface is bound and DMA is on. -/
def renderLine (s : State) : State :=
  if s.display.surfaceBound && s.display.dmaEnable then
    drawLine (countLine (armBurst (latchRest (s.raiseIfEnabled 0))))
  else s

/-- `DisplayEndOfFrame()` (R133), gated by nothing. -/
def endOfFrame (s : State) : State :=
  let s1 :=
    { s with display := { s.display with dmaLines := 0, lineCount := (s.timer 2).ctr.backup } }
  let s2 := s1.raiseIfEnabled 2
  { s2 with display := { s2.display with surfaceBound := false } }

end Sys2Proof.Machine
end

