-- ==== Sys2Proof/Machine/SerialEngine.lean ====
section
/-! DEFINITION. The serial engine: the two enqueue operations, the tick of Timer 4 and the level of the
serial interrupt (44_uart.md R142 to R147). -/

namespace Sys2Proof.Machine

/-- The queue index after `k`, modulo `RXQ_DEPTH` (44_uart.md R144). -/
def rxqSucc (p : Params) (k : Nat) : Nat := (k + 1) % p.rxqDepth

/-- The queue index before `k`, modulo `RXQ_DEPTH`: `0 - 1` wraps (R145). -/
def rxqPred (p : Params) (k : Nat) : Nat := (k + (p.rxqDepth - 1)) % p.rxqDepth

/-- `rxq[k]` (10_state.md R27). -/
def Uart.slot (u : Uart) (k : Nat) : SerialWord := u.rxq.getD k 0

/-- An enqueue arms the receive countdown when the queue was empty (R145). -/
def Uart.armReceive (u : Uart) (p : Params) : Uart :=
  if u.rxqWaiting = 0 then { u with rxActive := true, rxCount := p.uartRxPeriod } else u

/-- `Loopback(w)`: own transmission, to the front of the queue; dropped when the queue is full (R145). -/
def Uart.loopback (u : Uart) (p : Params) (w : SerialWord) : Uart :=
  if u.rxqWaiting < p.rxqDepth then
    let u1 := u.armReceive p
    { u1 with
      rxqOut := rxqPred p u.rxqOut
      rxq := u.rxq.set (rxqPred p u.rxqOut) w
      rxqWaiting := u.rxqWaiting + 1 }
  else u

/-- `EnqueueTail(w)`: from the wire, to the back of the queue; dropped when the queue is full (R145). -/
def Uart.enqueueTail (u : Uart) (p : Params) (w : SerialWord) : Uart :=
  if u.rxqWaiting < p.rxqDepth then
    let u1 := u.armReceive p
    { u1 with
      rxq := u.rxq.set u.rxqIn w
      rxqIn := rxqSucc p u.rxqIn
      rxqWaiting := u.rxqWaiting + 1 }
  else u

/-- Arm the transmit countdown (R143). -/
def Uart.armTransmit (u : Uart) (p : Params) : Uart := { u with txActive := true, txCount := p.uartTxPeriod }

/-- The head of the queue goes to the data register; overrun is tested before ready is set (R146). -/
def Uart.deliver (u : Uart) (p : Params) : Uart :=
  if 0 < u.rxqWaiting then
    { u with
      rxOverrun := u.rxOverrun || u.rxReady
      rxData := u.slot u.rxqOut
      rxqOut := rxqSucc p u.rxqOut
      rxqWaiting := u.rxqWaiting - 1
      rxReady := true }
  else u

/-- After a delivery: re-arm for a further queued word, or mark receive inactive (R146). -/
def Uart.rearmReceive (u : Uart) (p : Params) : Uart :=
  if 0 < u.rxqWaiting then { u with rxCount := p.uartRxPeriod + p.uartRxNextDelay }
  else { u with rxActive := false }

/-- The receive path of `UartTick` (R146). -/
def Uart.receiveTick (u : Uart) (p : Params) : Uart :=
  if u.rxActive then
    if u.rxCount = 0 then (u.deliver p).rearmReceive p else { u with rxCount := u.rxCount - 1 }
  else u

/-- A transmit slot completes: a latched break starts again with the break code, else the transmitter
goes idle (R146). -/
def Uart.completeTransmit (u : Uart) (p : Params) : Uart :=
  if u.sendBreak then
    ({ u with txData := p.breakWord, txCount := p.uartTxPeriod }).loopback p p.breakWord
  else { u with txActive := false }

/-- The transmit path of `UartTick`; the callback sees `tx_data` after the break substitution (R146). -/
def transmitTick (s : State) : State :=
  if s.uart.txActive then
    if s.uart.txCount = 0 then
      let s1 := { s with uart := s.uart.completeTransmit s.params }
      if s1.uart.callbackBound then s1.emit (.txByte s1.uart.txData) else s1
    else { s with uart := { s.uart with txCount := s.uart.txCount - 1 } }
  else s

/-- `UartTick()`: receive before transmit (R146, D28). -/
def uartTick (s : State) : State := transmitTick { s with uart := s.uart.receiveTick s.params }

/-- `SerialLevelAssert()`: the level is asserted in every pass for as long as it holds (R147). -/
def serialLevelAssert (s : State) : State := if s.uart.irqLevel then s.raiseInt 4 else s

end Sys2Proof.Machine
end

