-- ==== Sys2Proof/Machine/UpdatePass.lean ====
section
/-! DEFINITION. The timer bank's eight steps (41_timers.md R82 to R91) and the Update pass
(40_update_dispatcher.md R67, R68). -/

namespace Sys2Proof.Machine

/-- The borrow-out of a timer as it stands now in this pass. -/
def State.timerBorrow (s : State) (n : Fin 8) : Bool := (s.timer n).ctr.borrowOut

/-- Timer 0, the display line timer (41_timers.md R84): never linked, never one-shot. -/
def stepTimer0 (s : State) : State :=
  let x := s.counter (.timer 0)
  if x.enableCount then
    let ticks := x.elapsedTicks s.cycle Config.baseShift
    consumeTicks (.timer 0) ticks Counter.reloadAlways renderLine
      (s.setCounter (.timer 0) (x.sync ticks Config.baseShift))
  else s.setCounter (.timer 0) x.idle

/-- Timer 2, the frame timer, linked to Timer 0 (R85). -/
def stepTimer2 (s : State) : State :=
  counterStep (.timer 2) true (s.timerBorrow 0) Config.baseShift endOfFrame s

/-- Timer 4, the UART bit-rate timer, linked to Timer 2, extra /8 in clocked mode (R86). -/
def stepTimer4 (s : State) : State :=
  counterStep (.timer 4) true (s.timerBorrow 2) (Config.baseShift + Config.t4ExtraShift) uartTick s

/-- Timer 1, head of group B: its link source is the constant 0 (R87). -/
def stepTimer1 (s : State) : State :=
  counterStep (.timer 1) true false Config.baseShift (fun s => s.raiseIfEnabled 1) s

/-- Timer 3, linked to Timer 1 (R88). -/
def stepTimer3 (s : State) : State :=
  counterStep (.timer 3) true (s.timerBorrow 1) Config.baseShift (fun s => s.raiseIfEnabled 3) s

/-- Timer 5, linked to Timer 3 (R89). -/
def stepTimer5 (s : State) : State :=
  counterStep (.timer 5) true (s.timerBorrow 3) Config.baseShift (fun s => s.raiseIfEnabled 5) s

/-- Timer 7, linked to Timer 5 (R90). -/
def stepTimer7 (s : State) : State :=
  counterStep (.timer 7) true (s.timerBorrow 5) Config.baseShift (fun s => s.raiseIfEnabled 7) s

/-- Timer 6, standalone, no linking capability (R91). -/
def stepTimer6 (s : State) : State :=
  counterStep (.timer 6) false false Config.baseShift (fun s => s.raiseIfEnabled 6) s

/-- The pass's start: rebase before any timer math, then `next_event <- 0xFFFFFFFF` (R67, R69). -/
def beginPass (s : State) : State :=
  let s1 := if s.params.rebaseThreshold < s.cycle then rebase s else s
  { s1 with nextEvent := 0xFFFFFFFF }

/-- Cascade group A: 0, 2, 4, then the serial level (R67, R68, D34). -/
def passGroupA (s : State) : State :=
  let s := predict (.timer 0) Config.baseShift (stepTimer0 s)
  let s := predict (.timer 2) Config.baseShift (stepTimer2 s)
  let s := predict (.timer 4) (Config.baseShift + Config.t4ExtraShift) (stepTimer4 s)
  serialLevelAssert s

/-- Cascade group B's timers: 1, 3, 5, 7 (R67, R68). -/
def passGroupB (s : State) : State :=
  let s := predict (.timer 1) Config.baseShift (stepTimer1 s)
  let s := predict (.timer 3) Config.baseShift (stepTimer3 s)
  let s := predict (.timer 5) Config.baseShift (stepTimer5 s)
  predict (.timer 7) Config.baseShift (stepTimer7 s)

/-- One audio channel of the pass (R67). -/
def passChannel (c : Fin 4) (s : State) : State := predict (.audio c) Config.baseShift (stepAudio c s)

/-- The audio channels 0, 1, 2, 3 (R67, R68). -/
def passAudio (s : State) : State := passChannel 3 (passChannel 2 (passChannel 1 (passChannel 0 s)))

/-- Timer 6, last (R67, R68). -/
def passTimer6 (s : State) : State := predict (.timer 6) Config.baseShift (stepTimer6 s)

/-- `Update()` (40_update_dispatcher.md R67). -/
def updatePass (s : State) : State := passTimer6 (passAudio (passGroupB (passGroupA (beginPass s))))

end Sys2Proof.Machine
end

