-- ==== Sys2Proof/Machine/AudioRegs.lean ====
section
/-! DEFINITION. The audio registers: PEEK and POKE of the eight registers of a channel, ATTENc, MPAN, MSTEREO
(42_audio.md R106 to R127). Every POKE of a channel register ends with `next_event <- cycle` (R77). -/

namespace Sys2Proof.Machine

/-- A write of channel `c` that obliges the host to issue UPDATE (40_update_dispatcher.md R77). -/
def State.pokeChannel (s : State) (c : Fin 4) (a : AudioChannel) : State := (s.setChannel c a).reschedule

/-- `PEEK AUDcVOL` (R106). -/
def execPeekAudVol (c : Fin 4) (s : State) : Host.Outcome State Fault Refusal :=
  .next (s.returnByte (s.channel c).volume)

/-- `POKE AUDcVOL, val`: `output` is not recomputed and no mix runs (R107). -/
def execPokeAudVol (c : Fin 4) (val : Byte) (s : State) : Host.Outcome State Fault Refusal :=
  .next (s.pokeChannel c { s.channel c with volume := val })

/-- `PEEK AUDcSHFTFB` (R108). -/
def execPeekAudShftfb (c : Fin 4) (s : State) : Host.Outcome State Fault Refusal :=
  .next (s.returnByte ((s.channel c).waveshaper.extractLsb' 13 8))

/-- `POKE AUDcSHFTFB, val` (R109). -/
def execPokeAudShftfb (c : Fin 4) (val : Byte) (s : State) : Host.Outcome State Fault Refusal :=
  .next (s.pokeChannel c { s.channel c with waveshaper := waveSetHigh (s.channel c).waveshaper val })

/-- `PEEK AUDcOUTVAL`: no pass runs first (R110). -/
def execPeekAudOutval (c : Fin 4) (s : State) : Host.Outcome State Fault Refusal :=
  .next (s.returnByte (s.channel c).output)

/-- `POKE AUDcOUTVAL, val`: set the output, mix, reschedule (R111). -/
def execPokeAudOutval (c : Fin 4) (val : Byte) (s : State) : Host.Outcome State Fault Refusal :=
  .next (mix (s.setChannel c { s.channel c with output := val })).reschedule

/-- `PEEK AUDcL8SHFT` (R112). -/
def execPeekAudL8shft (c : Fin 4) (s : State) : Host.Outcome State Fault Refusal :=
  .next (s.returnByte ((s.channel c).waveshaper.extractLsb' 0 8))

/-- `POKE AUDcL8SHFT, val` (R113). -/
def execPokeAudL8shft (c : Fin 4) (val : Byte) (s : State) : Host.Outcome State Fault Refusal :=
  .next (s.pokeChannel c { s.channel c with waveshaper := waveSetLow (s.channel c).waveshaper val })

/-- `PEEK AUDcTBACK` (R114). -/
def execPeekAudTback (c : Fin 4) (s : State) : Host.Outcome State Fault Refusal :=
  .next (s.returnByte (s.channel c).ctr.backup)

/-- `POKE AUDcTBACK, val` (R115). -/
def execPokeAudTback (c : Fin 4) (val : Byte) (s : State) : Host.Outcome State Fault Refusal :=
  .next (s.pokeChannel c { s.channel c with ctr := { (s.channel c).ctr with backup := val } })

/-- `PEEK AUDcCTL`: bit 6 reads 0 (R116). -/
def execPeekAudCtl (c : Fin 4) (s : State) : Host.Outcome State Fault Refusal :=
  .next (s.returnByte (audCtlByte (s.channel c)))

/-- `POKE AUDcCTL, val`: `waveshaper[12]`, integrate, reload, count, linking; bit 6 clears done; bit 6 or 3
restarts the tick phase (R117). -/
def execPokeAudCtl (c : Fin 4) (val : Byte) (s : State) : Host.Outcome State Fault Refusal :=
  .next (s.pokeChannel c
    { s.channel c with
      ctr := (s.channel c).ctr.control val s.cycle
      waveshaper := waveSetFeedback7 (s.channel c).waveshaper val
      integrate := val.getLsbD 5 })

/-- `PEEK AUDcCOUNT`: a full Update pass, then `u8(current)` (R118). -/
def execPeekAudCount (c : Fin 4) (s : State) : Host.Outcome State Fault Refusal :=
  .next ((updatePass s).returnByte (byteOfCount ((updatePass s).channel c).ctr.current))

/-- `POKE AUDcCOUNT, val` (R119). -/
def execPokeAudCount (c : Fin 4) (val : Byte) (s : State) : Host.Outcome State Fault Refusal :=
  .next (s.pokeChannel c { s.channel c with ctr := { (s.channel c).ctr with current := countOfByte val } })

/-- `PEEK AUDcMISC`: no pass runs first (R120). -/
def execPeekAudMisc (c : Fin 4) (s : State) : Host.Outcome State Fault Refusal :=
  .next (s.returnByte (audMiscByte (s.channel c)))

/-- `POKE AUDcMISC, val`: `waveshaper[11:8]` and the two borrow flags (R121). -/
def execPokeAudMisc (c : Fin 4) (val : Byte) (s : State) : Host.Outcome State Fault Refusal :=
  .next (s.pokeChannel c
    { s.channel c with
      ctr := { (s.channel c).ctr with borrowIn := val.getLsbD 1, borrowOut := val.getLsbD 0 }
      waveshaper := waveSetMid (s.channel c).waveshaper val })

/-- `PEEK ATTENc` (R122). -/
def execPeekAtten (c : Fin 4) (s : State) : Host.Outcome State Fault Refusal :=
  .next (s.returnByte (s.attenuation c))

/-- `POKE ATTENc, val`: store and mix; `next_event` is not changed (R123). -/
def execPokeAtten (c : Fin 4) (val : Byte) (s : State) : Host.Outcome State Fault Refusal :=
  .next (mix (s.setAttenuation c val))

/-- `PEEK MPAN` (R124). -/
def execPeekMpan (s : State) : Host.Outcome State Fault Refusal :=
  .next (s.returnByte s.mixer.pan)

/-- `POKE MPAN, val`: store and mix (R125). -/
def execPokeMpan (val : Byte) (s : State) : Host.Outcome State Fault Refusal :=
  .next (mix { s with mixer := { s.mixer with pan := val } })

/-- `PEEK MSTEREO`: the mask through `MSTEREO_XOR` (R126). -/
def execPeekMstereo (s : State) : Host.Outcome State Fault Refusal :=
  .next (s.returnByte (mstereoByte s.params s.mixer.stereoEnable))

/-- `POKE MSTEREO, val`: store through `MSTEREO_XOR` and mix (R127). -/
def execPokeMstereo (val : Byte) (s : State) : Host.Outcome State Fault Refusal :=
  .next (mix { s with mixer := { s.mixer with stereoEnable := mstereoByte s.params val } })

end Sys2Proof.Machine
end

