-- ==== Sys2Proof/Machine/DisplayRegs.lean ====
section
/-! DEFINITION. The display registers: DISPCTL, DISPADRL, DISPADRH and the palette pair
(43_display.md R135 to R141). None of them changes `next_event`. -/

namespace Sys2Proof.Machine

/-- `POKE DISPCTL, val`: DMA enable, flip, and the two stored flags nothing reads (R135). -/
def execPokeDispctl (val : Byte) (s : State) : Host.Outcome State Fault Refusal :=
  .next
    { s with
      display :=
        { s.display with
          dmaEnable := val.getLsbD 0, flip := val.getLsbD 1, fourbit := val.getLsbD 2,
          colour := val.getLsbD 3 } }

/-- `POKE DISPADRL, val` (R136). -/
def execPokeDispadrl (val : Byte) (s : State) : Host.Outcome State Fault Refusal :=
  .next { s with display := { s.display with dispAddr := addrSetLow s.display.dispAddr val } }

/-- `POKE DISPADRH, val` (R137). -/
def execPokeDispadrh (val : Byte) (s : State) : Host.Outcome State Fault Refusal :=
  .next { s with display := { s.display with dispAddr := addrSetHigh s.display.dispAddr val } }

/-- `PEEK GREENi`: bits 7:4 read 0 (R138). -/
def execPeekGreen (i : Fin 16) (s : State) : Host.Outcome State Fault Refusal :=
  .next (s.returnByte (greenByte (s.palEntry i)))

/-- `POKE GREENi, val` (R139). -/
def execPokeGreen (i : Fin 16) (val : Byte) (s : State) : Host.Outcome State Fault Refusal :=
  .next (s.setPalEntry i ((s.palEntry i).writeGreen val))

/-- `PEEK BLUEREDi` (R140). -/
def execPeekBluered (i : Fin 16) (s : State) : Host.Outcome State Fault Refusal :=
  .next (s.returnByte (blueredByte (s.palEntry i)))

/-- `POKE BLUEREDi, val` (R141). -/
def execPokeBluered (i : Fin 16) (val : Byte) (s : State) : Host.Outcome State Fault Refusal :=
  .next (s.setPalEntry i ((s.palEntry i).writeBluered val))

end Sys2Proof.Machine
end

