-- ==== Sys2Proof/Machine/HostCommands.lean ====
section
/-! DEFINITION. The dispatcher and host commands: UPDATE, ADVANCE, RESET, RXINJECT, BINDSURFACE, SETSKIP, SETEPOCH,
SETCALLBACK (40_update_dispatcher.md R67, R79; 70 R178; 44 R149, R150; 43 R129, R130; 42 R105). -/

namespace Sys2Proof.Machine

/-- `UPDATE` (R67). -/
def execUpdate (s : State) : Host.Outcome State Fault Refusal :=
  .next (updatePass s)

/-- `ADVANCE n`: `cycle <- cycle + n` modulo 2^32; no counter moves (R79). -/
def execAdvance (n : BitVec 16) (s : State) : Host.Outcome State Fault Refusal :=
  .next { s with cycle := s.cycle + n.setWidth 32 }

/-- `RESET`: `ResetState()`; `cycle` and `halt` stay, no event (R178). -/
def execReset (s : State) : Host.Outcome State Fault Refusal :=
  .next (resetState s)

/-- `RXINJECT w`: a word from the cable, to the back of the queue (R149). -/
def execRxInject (w : SerialWord) (s : State) : Host.Outcome State Fault Refusal :=
  .next { s with uart := s.uart.enqueueTail s.params (s.params.word w) }

/-- `BINDSURFACE`: `surface_bound <- 1 ; out_line <- 0` (R129). -/
def execBindSurface (s : State) : Host.Outcome State Fault Refusal :=
  .next { s with display := { s.display with surfaceBound := true, outLine := 0 } }

/-- `SETSKIP b` (R130). -/
def execSetSkip (b : Bool) (s : State) : Host.Outcome State Fault Refusal :=
  .next { s with display := { s.display with skipFrame := b } }

/-- `SETEPOCH`: `mix_epoch <- cycle` (R105). -/
def execSetEpoch (s : State) : Host.Outcome State Fault Refusal :=
  .next { s with mixer := { s.mixer with mixEpoch := s.cycle } }

/-- `SETCALLBACK b` (R150). -/
def execSetCallback (b : Bool) (s : State) : Host.Outcome State Fault Refusal :=
  .next { s with uart := { s.uart with callbackBound := b } }

end Sys2Proof.Machine
end

