-- ==== Sys2Proof/Machine/IllegalAccess.lean ====
section
/-! DEFINITION. Illegal accesses (45_system_registers.md R155): a PEEK returns 0xFF, a POKE does nothing; no pass, no
event, no other state. -/

namespace Sys2Proof.Machine

/-- The sentinel an illegal PEEK returns (R155). -/
def illegalReadByte : Byte := 0xFF

/-- An illegal PEEK (R155). -/
def illegalPeek (s : State) : State := s.returnByte illegalReadByte

/-- An illegal POKE: nothing (R155). -/
def illegalPoke (s : State) : State := s

/-- `PEEK` of 0x45 (R155). -/
def execPeekIllegal45 (s : State) : Host.Outcome State Fault Refusal :=
  .next (illegalPeek s)

/-- `PEEK` of 0x46 to 0x47 (R155). -/
def execPeekIllegal46 (_off : Byte) (s : State) : Host.Outcome State Fault Refusal :=
  .next (illegalPeek s)

/-- `PEEK` of 0x48 to 0x4F (R155). -/
def execPeekIllegal48 (_off : Byte) (s : State) : Host.Outcome State Fault Refusal :=
  .next (illegalPeek s)

/-- `PEEK` of 0x51 (R155). -/
def execPeekIllegal51 (s : State) : Host.Outcome State Fault Refusal :=
  .next (illegalPeek s)

/-- `PEEK` of 0x52 to 0x53 (R155). -/
def execPeekIllegal52 (_off : Byte) (s : State) : Host.Outcome State Fault Refusal :=
  .next (illegalPeek s)

/-- `PEEK` of 0x54 to 0x57 (R155). -/
def execPeekIllegal54 (_off : Byte) (s : State) : Host.Outcome State Fault Refusal :=
  .next (illegalPeek s)

/-- `PEEK` of 0x58 to 0x5F (R155). -/
def execPeekIllegal58 (_off : Byte) (s : State) : Host.Outcome State Fault Refusal :=
  .next (illegalPeek s)

/-- `PEEK` of 0x60 to 0x7F (R155). -/
def execPeekIllegal60 (_off : Byte) (s : State) : Host.Outcome State Fault Refusal :=
  .next (illegalPeek s)

/-- `PEEK` of 0x82 to 0x83 (R155). -/
def execPeekIllegal82 (_off : Byte) (s : State) : Host.Outcome State Fault Refusal :=
  .next (illegalPeek s)

/-- `PEEK` of 0x87 (R155). -/
def execPeekIllegal87 (s : State) : Host.Outcome State Fault Refusal :=
  .next (illegalPeek s)

/-- `PEEK` of 0x89 (R155). -/
def execPeekIllegal89 (s : State) : Host.Outcome State Fault Refusal :=
  .next (illegalPeek s)

/-- `PEEK` of 0x8A (R155). -/
def execPeekIllegal8A (s : State) : Host.Outcome State Fault Refusal :=
  .next (illegalPeek s)

/-- `PEEK` of 0x8E to 0x8F (R155). -/
def execPeekIllegal8E (_off : Byte) (s : State) : Host.Outcome State Fault Refusal :=
  .next (illegalPeek s)

/-- `PEEK` of 0x90 to 0x9F (R155). -/
def execPeekIllegal90 (_off : Byte) (s : State) : Host.Outcome State Fault Refusal :=
  .next (illegalPeek s)

/-- `PEEK` of 0xC0 to 0xFF (R155). -/
def execPeekIllegalC0 (_off : Byte) (s : State) : Host.Outcome State Fault Refusal :=
  .next (illegalPeek s)

/-- `POKE` of 0x45 (R155). -/
def execPokeIllegal45 (_val : Byte) (s : State) : Host.Outcome State Fault Refusal :=
  .next (illegalPoke s)

/-- `POKE` of 0x46 to 0x47 (R155). -/
def execPokeIllegal46 (_off : Byte) (_val : Byte) (s : State) : Host.Outcome State Fault Refusal :=
  .next (illegalPoke s)

/-- `POKE` of 0x48 to 0x4F (R155). -/
def execPokeIllegal48 (_off : Byte) (_val : Byte) (s : State) : Host.Outcome State Fault Refusal :=
  .next (illegalPoke s)

/-- `POKE` of 0x51 (R155). -/
def execPokeIllegal51 (_val : Byte) (s : State) : Host.Outcome State Fault Refusal :=
  .next (illegalPoke s)

/-- `POKE` of 0x52 to 0x53 (R155). -/
def execPokeIllegal52 (_off : Byte) (_val : Byte) (s : State) : Host.Outcome State Fault Refusal :=
  .next (illegalPoke s)

/-- `POKE` of 0x54 to 0x57 (R155). -/
def execPokeIllegal54 (_off : Byte) (_val : Byte) (s : State) : Host.Outcome State Fault Refusal :=
  .next (illegalPoke s)

/-- `POKE` of 0x58 to 0x5F (R155). -/
def execPokeIllegal58 (_off : Byte) (_val : Byte) (s : State) : Host.Outcome State Fault Refusal :=
  .next (illegalPoke s)

/-- `POKE` of 0x60 to 0x7F (R155). -/
def execPokeIllegal60 (_off : Byte) (_val : Byte) (s : State) : Host.Outcome State Fault Refusal :=
  .next (illegalPoke s)

/-- `POKE` of 0x82 to 0x83 (R155). -/
def execPokeIllegal82 (_off : Byte) (_val : Byte) (s : State) : Host.Outcome State Fault Refusal :=
  .next (illegalPoke s)

/-- `POKE` of 0x84 to 0x85 (R155). -/
def execPokeIllegal84 (_off : Byte) (_val : Byte) (s : State) : Host.Outcome State Fault Refusal :=
  .next (illegalPoke s)

/-- `POKE` of 0x86 (R155). -/
def execPokeIllegal86 (_val : Byte) (s : State) : Host.Outcome State Fault Refusal :=
  .next (illegalPoke s)

/-- `POKE` of 0x88 (R155). -/
def execPokeIllegal88 (_val : Byte) (s : State) : Host.Outcome State Fault Refusal :=
  .next (illegalPoke s)

/-- `POKE` of 0x8E to 0x8F (R155). -/
def execPokeIllegal8E (_off : Byte) (_val : Byte) (s : State) : Host.Outcome State Fault Refusal :=
  .next (illegalPoke s)

/-- `POKE` of 0x96 to 0x97 (R155). -/
def execPokeIllegal96 (_off : Byte) (_val : Byte) (s : State) : Host.Outcome State Fault Refusal :=
  .next (illegalPoke s)

/-- `POKE` of 0x98 to 0x9B (R155). -/
def execPokeIllegal98 (_off : Byte) (_val : Byte) (s : State) : Host.Outcome State Fault Refusal :=
  .next (illegalPoke s)

/-- `POKE` of 0x9F (R155). -/
def execPokeIllegal9F (_val : Byte) (s : State) : Host.Outcome State Fault Refusal :=
  .next (illegalPoke s)

/-- `POKE` of 0xC0 to 0xFF (R155). -/
def execPokeIllegalC0 (_off : Byte) (_val : Byte) (s : State) : Host.Outcome State Fault Refusal :=
  .next (illegalPoke s)

end Sys2Proof.Machine
end

