-- ==== Sys2Proof/Machine/SerialRegs.lean ====
section
/-! DEFINITION. The serial registers SERCTL and SERDAT (44_uart.md R151 to R154). -/

namespace Sys2Proof.Machine

/-- `PEEK SERCTL`: a status byte; the read clears nothing and no pass runs (R151). -/
def execPeekSerctl (s : State) : Host.Outcome State Fault Refusal :=
  .next (s.returnByte (serctlByte s.uart))

/-- The enables and the break latch of a SERCTL write (30_encoding.md R60, R152). -/
def Uart.writeControl (u : Uart) (val : Byte) : Uart :=
  { u with
    txIrqEnable := val.getLsbD 7, rxIrqEnable := val.getLsbD 6, parityEnable := val.getLsbD 4,
    sendBreak := val.getLsbD 1, parityEven := val.getLsbD 0 }

/-- A SERCTL write with TXBRK = 1 arms the transmitter and loops one break word back, every time (R152). -/
def Uart.startBreak (u : Uart) (p : Params) (val : Byte) : Uart :=
  if val.getLsbD 1 then (u.armTransmit p).loopback p p.breakWord else u

/-- `POKE SERCTL, val` (R152). -/
def execPokeSerctl (val : Byte) (s : State) : Host.Outcome State Fault Refusal :=
  .next { s with uart := ((s.uart.writeControl val).resetErrors val).startBreak s.params val }.reschedule

/-- `PEEK SERDAT`: clears `rx_ready` and nothing else (R153). -/
def execPeekSerdat (s : State) : Host.Outcome State Fault Refusal :=
  .next ({ s with uart := { s.uart with rxReady := false } }.returnByte (byteOfSerial s.uart.rxData))

/-- `POKE SERDAT, val`: arm the transmitter and loop the word back; `next_event` is not changed (R154). -/
def execPokeSerdat (val : Byte) (s : State) : Host.Outcome State Fault Refusal :=
  .next
    { s with
      uart :=
        (({ s.uart with txData := serialOfByte s.params val }).armTransmit s.params).loopback s.params
          (serialOfByte s.params val) }

end Sys2Proof.Machine
end

