-- ==== Sys2Proof/Machine/SystemRegs.lean ====
section
/-! DEFINITION. The system registers: interrupt status, power control, the I/O port and the auxiliary registers
(45_system_registers.md R156 to R165). -/

namespace Sys2Proof.Machine

/-- `PEEK INTRST`: acknowledges nothing, no pass runs (R156). -/
def execPeekIntrst (s : State) : Host.Outcome State Fault Refusal :=
  .next (s.returnByte s.intStatus)

/-- `POKE INTRST, val`: a written 1 clears the bit (R157). -/
def execPokeIntrst (val : Byte) (s : State) : Host.Outcome State Fault Refusal :=
  .next { s with intStatus := s.intStatus &&& ~~~val }.reschedule

/-- `PEEK INTSET` (auxiliary): identical to PEEK INTRST (R158); unmapped, an illegal read (93 U9, R155). -/
def execPeekIntset (s : State) : Host.Outcome State Fault Refusal :=
  .next (s.returnByte (if s.params.intsetMapped then s.intStatus else 0xFF))

/-- `POKE INTSET, val` (auxiliary): a written 1 sets the bit, gated by nothing (R159); unmapped, an illegal
write (93 U9, R155). -/
def execPokeIntset (val : Byte) (s : State) : Host.Outcome State Fault Refusal :=
  .next (if s.params.intsetMapped then { s with intStatus := s.intStatus ||| val } else s)

/-- `PEEK MAGRDY0` (auxiliary): 0x00 (R164). -/
def execPeekMagrdy0 (s : State) : Host.Outcome State Fault Refusal :=
  .next (s.returnByte 0x00)

/-- `PEEK MAGRDY1` (auxiliary): 0x00 (R164). -/
def execPeekMagrdy1 (s : State) : Host.Outcome State Fault Refusal :=
  .next (s.returnByte 0x00)

/-- `PEEK AUDIN` (auxiliary): 0x00 (R164). -/
def execPeekAudin (s : State) : Host.Outcome State Fault Refusal :=
  .next (s.returnByte 0x00)

/-- `POKE SYSCTL1, val`: bit 1 = 0 powers down; then the strobe event carries bit 0 (R160). -/
def execPokeSysctl1 (val : Byte) (s : State) : Host.Outcome State Fault Refusal :=
  .next ((if val.getLsbD 1 then s else powerDown s).emit (.cartAddrStrobe (val.getLsbD 0)))

/-- `PEEK MIKEYHREV` (auxiliary): `HWREV` (R164). -/
def execPeekMikeyhrev (s : State) : Host.Outcome State Fault Refusal :=
  .next (s.returnByte s.params.hwrev)

/-- `POKE MIKEYSREV` (auxiliary): the value is discarded (R165). -/
def execPokeMikeysrev (_val : Byte) (s : State) : Host.Outcome State Fault Refusal :=
  .next s

/-- `POKE IODIR, val`: no event (R161). -/
def execPokeIodir (val : Byte) (s : State) : Host.Outcome State Fault Refusal :=
  .next { s with iodir := val }

/-- `PEEK IODAT`: the pin view; `rest` as the last line strobe left it (R163). -/
def execPeekIodat (s : State) : Host.Outcome State Fault Refusal :=
  .next (s.returnByte (iodatByte s.params s.iodir s.iodat s.display.rest))

/-- The side-channel events of an IODAT write (R162): the data bit always, the write-enable bit when pin 4
is an output. -/
def State.cartEvents (s : State) (val : Byte) : State :=
  let s1 := s.emit (.cartAddrData (val.getLsbD 1))
  if s.iodir.getLsbD 4 then s1.emit (.cartBank1WriteEnable (val.getLsbD 4)) else s1

/-- `POKE IODAT, val`: the byte is stored whole, then the events (R162). -/
def execPokeIodat (val : Byte) (s : State) : Host.Outcome State Fault Refusal :=
  .next ({ s with iodat := val }.cartEvents val)

/-- `POKE SDONEACK` (auxiliary): the value is discarded (R165). -/
def execPokeSdoneack (_val : Byte) (s : State) : Host.Outcome State Fault Refusal :=
  .next s

/-- `POKE CPUSLEEP` (auxiliary): the value is discarded (R165). -/
def execPokeCpusleep (_val : Byte) (s : State) : Host.Outcome State Fault Refusal :=
  .next s

/-- `POKE PBKUP` (auxiliary): the value is discarded (R165). -/
def execPokePbkup (_val : Byte) (s : State) : Host.Outcome State Fault Refusal :=
  .next s

/-- `POKE MTEST0` (auxiliary): the value is discarded (R165). -/
def execPokeMtest0 (_val : Byte) (s : State) : Host.Outcome State Fault Refusal :=
  .next s

/-- `POKE MTEST1` (auxiliary): the value is discarded (R165). -/
def execPokeMtest1 (_val : Byte) (s : State) : Host.Outcome State Fault Refusal :=
  .next s

/-- `POKE MTEST2` (auxiliary): the value is discarded (R165). -/
def execPokeMtest2 (_val : Byte) (s : State) : Host.Outcome State Fault Refusal :=
  .next s

end Sys2Proof.Machine
end

