-- ==== Sys2Proof/Machine/TimerRegs.lean ====
section
/-! DEFINITION. The timer registers: PEEK and POKE of TIMnBKUP, TIMnCTLA, TIMnCNT, TIMnCTLB (41_timers.md R92 to R99). -/

namespace Sys2Proof.Machine

/-- `PEEK TIMnBKUP`: no Update pass runs (R92). -/
def execPeekTimBkup (n : Fin 8) (s : State) : Host.Outcome State Fault Refusal :=
  .next (s.returnByte (s.timer n).ctr.backup)

/-- A field write of timer `n`'s counter record, which obliges the host to issue UPDATE (40_update_dispatcher.md R77). -/
def State.pokeTimer (s : State) (n : Fin 8) (x : Counter) : State := (s.setCounter (.timer n) x).reschedule

/-- `POKE TIMnBKUP, val`: used from the next reload on (R93). -/
def execPokeTimBkup (n : Fin 8) (val : Byte) (s : State) : Host.Outcome State Fault Refusal :=
  .next (s.pokeTimer n { (s.timer n).ctr with backup := val })

/-- `PEEK TIMnCTLA`: bits 6 and 5 read 0 (R94). -/
def execPeekTimCtla (n : Fin 8) (s : State) : Host.Outcome State Fault Refusal :=
  .next (s.returnByte (ctlaByte (s.intMask.getLsbD n) (s.timer n).ctr))

/-- `POKE TIMnCTLA, val`: interrupt enable, reload, count, linking; bit 6 re-arms; bit 6 or 3 restarts the
tick phase (R95). -/
def execPokeTimCtla (n : Fin 8) (val : Byte) (s : State) : Host.Outcome State Fault Refusal :=
  .next ((s.setIntMask n (val.getLsbD 7)).pokeTimer n ((s.timer n).ctr.control val s.cycle))

/-- `PEEK TIMnCNT`: a full Update pass, then `u8(current)` (R96). -/
def execPeekTimCnt (n : Fin 8) (s : State) : Host.Outcome State Fault Refusal :=
  .next ((updatePass s).returnByte (byteOfCount ((updatePass s).timer n).ctr.current))

/-- `POKE TIMnCNT, val`: the whole workspace is replaced; `last_clock` stays (R97). -/
def execPokeTimCnt (n : Fin 8) (val : Byte) (s : State) : Host.Outcome State Fault Refusal :=
  .next (s.pokeTimer n { (s.timer n).ctr with current := countOfByte val })

/-- `PEEK TIMnCTLB`: the flags of the last pass (R98). -/
def execPeekTimCtlb (n : Fin 8) (s : State) : Host.Outcome State Fault Refusal :=
  .next (s.returnByte (ctlbByte (s.timer n).ctr))

/-- `POKE TIMnCTLB, val`: done, borrow-in, borrow-out (R99). -/
def execPokeTimCtlb (n : Fin 8) (val : Byte) (s : State) : Host.Outcome State Fault Refusal :=
  .next (s.pokeTimer n
    { (s.timer n).ctr with done := val.getLsbD 3, borrowIn := val.getLsbD 1, borrowOut := val.getLsbD 0 })

end Sys2Proof.Machine
end

