-- ==== Sys2Proof/Machine/Dispatch.lean ====
section
/-! DEFINITION. Each command's meaning, one arm per constructor of Instr. -/

namespace Sys2Proof.Machine

def exec (i : Instr) (s : State) : Host.Outcome State Fault Refusal :=
  match i with
  | .peekTimBkup n => Sys2Proof.Machine.execPeekTimBkup n s
  | .pokeTimBkup n val => Sys2Proof.Machine.execPokeTimBkup n val s
  | .peekTimCtla n => Sys2Proof.Machine.execPeekTimCtla n s
  | .pokeTimCtla n val => Sys2Proof.Machine.execPokeTimCtla n val s
  | .peekTimCnt n => Sys2Proof.Machine.execPeekTimCnt n s
  | .pokeTimCnt n val => Sys2Proof.Machine.execPokeTimCnt n val s
  | .peekTimCtlb n => Sys2Proof.Machine.execPeekTimCtlb n s
  | .pokeTimCtlb n val => Sys2Proof.Machine.execPokeTimCtlb n val s
  | .peekAudVol c => Sys2Proof.Machine.execPeekAudVol c s
  | .pokeAudVol c val => Sys2Proof.Machine.execPokeAudVol c val s
  | .peekAudShftfb c => Sys2Proof.Machine.execPeekAudShftfb c s
  | .pokeAudShftfb c val => Sys2Proof.Machine.execPokeAudShftfb c val s
  | .peekAudOutval c => Sys2Proof.Machine.execPeekAudOutval c s
  | .pokeAudOutval c val => Sys2Proof.Machine.execPokeAudOutval c val s
  | .peekAudL8shft c => Sys2Proof.Machine.execPeekAudL8shft c s
  | .pokeAudL8shft c val => Sys2Proof.Machine.execPokeAudL8shft c val s
  | .peekAudTback c => Sys2Proof.Machine.execPeekAudTback c s
  | .pokeAudTback c val => Sys2Proof.Machine.execPokeAudTback c val s
  | .peekAudCtl c => Sys2Proof.Machine.execPeekAudCtl c s
  | .pokeAudCtl c val => Sys2Proof.Machine.execPokeAudCtl c val s
  | .peekAudCount c => Sys2Proof.Machine.execPeekAudCount c s
  | .pokeAudCount c val => Sys2Proof.Machine.execPokeAudCount c val s
  | .peekAudMisc c => Sys2Proof.Machine.execPeekAudMisc c s
  | .pokeAudMisc c val => Sys2Proof.Machine.execPokeAudMisc c val s
  | .peekAtten c => Sys2Proof.Machine.execPeekAtten c s
  | .pokeAtten c val => Sys2Proof.Machine.execPokeAtten c val s
  | .peekMpan => Sys2Proof.Machine.execPeekMpan s
  | .pokeMpan val => Sys2Proof.Machine.execPokeMpan val s
  | .peekMstereo => Sys2Proof.Machine.execPeekMstereo s
  | .pokeMstereo val => Sys2Proof.Machine.execPokeMstereo val s
  | .peekIntrst => Sys2Proof.Machine.execPeekIntrst s
  | .pokeIntrst val => Sys2Proof.Machine.execPokeIntrst val s
  | .peekIntset => Sys2Proof.Machine.execPeekIntset s
  | .pokeIntset val => Sys2Proof.Machine.execPokeIntset val s
  | .peekMagrdy0 => Sys2Proof.Machine.execPeekMagrdy0 s
  | .peekMagrdy1 => Sys2Proof.Machine.execPeekMagrdy1 s
  | .peekAudin => Sys2Proof.Machine.execPeekAudin s
  | .pokeSysctl1 val => Sys2Proof.Machine.execPokeSysctl1 val s
  | .peekMikeyhrev => Sys2Proof.Machine.execPeekMikeyhrev s
  | .pokeMikeysrev val => Sys2Proof.Machine.execPokeMikeysrev val s
  | .pokeIodir val => Sys2Proof.Machine.execPokeIodir val s
  | .peekIodat => Sys2Proof.Machine.execPeekIodat s
  | .pokeIodat val => Sys2Proof.Machine.execPokeIodat val s
  | .peekSerctl => Sys2Proof.Machine.execPeekSerctl s
  | .pokeSerctl val => Sys2Proof.Machine.execPokeSerctl val s
  | .peekSerdat => Sys2Proof.Machine.execPeekSerdat s
  | .pokeSerdat val => Sys2Proof.Machine.execPokeSerdat val s
  | .pokeSdoneack val => Sys2Proof.Machine.execPokeSdoneack val s
  | .pokeCpusleep val => Sys2Proof.Machine.execPokeCpusleep val s
  | .pokeDispctl val => Sys2Proof.Machine.execPokeDispctl val s
  | .pokePbkup val => Sys2Proof.Machine.execPokePbkup val s
  | .pokeDispadrl val => Sys2Proof.Machine.execPokeDispadrl val s
  | .pokeDispadrh val => Sys2Proof.Machine.execPokeDispadrh val s
  | .pokeMtest0 val => Sys2Proof.Machine.execPokeMtest0 val s
  | .pokeMtest1 val => Sys2Proof.Machine.execPokeMtest1 val s
  | .pokeMtest2 val => Sys2Proof.Machine.execPokeMtest2 val s
  | .peekGreen k => Sys2Proof.Machine.execPeekGreen k s
  | .pokeGreen k val => Sys2Proof.Machine.execPokeGreen k val s
  | .peekBluered k => Sys2Proof.Machine.execPeekBluered k s
  | .pokeBluered k val => Sys2Proof.Machine.execPokeBluered k val s
  | .peekIllegal45 => Sys2Proof.Machine.execPeekIllegal45 s
  | .peekIllegal46 off => Sys2Proof.Machine.execPeekIllegal46 off s
  | .peekIllegal48 off => Sys2Proof.Machine.execPeekIllegal48 off s
  | .peekIllegal51 => Sys2Proof.Machine.execPeekIllegal51 s
  | .peekIllegal52 off => Sys2Proof.Machine.execPeekIllegal52 off s
  | .peekIllegal54 off => Sys2Proof.Machine.execPeekIllegal54 off s
  | .peekIllegal58 off => Sys2Proof.Machine.execPeekIllegal58 off s
  | .peekIllegal60 off => Sys2Proof.Machine.execPeekIllegal60 off s
  | .peekIllegal82 off => Sys2Proof.Machine.execPeekIllegal82 off s
  | .peekIllegal87 => Sys2Proof.Machine.execPeekIllegal87 s
  | .peekIllegal89 => Sys2Proof.Machine.execPeekIllegal89 s
  | .peekIllegal8A => Sys2Proof.Machine.execPeekIllegal8A s
  | .peekIllegal8E off => Sys2Proof.Machine.execPeekIllegal8E off s
  | .peekIllegal90 off => Sys2Proof.Machine.execPeekIllegal90 off s
  | .peekIllegalC0 off => Sys2Proof.Machine.execPeekIllegalC0 off s
  | .pokeIllegal45 val => Sys2Proof.Machine.execPokeIllegal45 val s
  | .pokeIllegal46 off val => Sys2Proof.Machine.execPokeIllegal46 off val s
  | .pokeIllegal48 off val => Sys2Proof.Machine.execPokeIllegal48 off val s
  | .pokeIllegal51 val => Sys2Proof.Machine.execPokeIllegal51 val s
  | .pokeIllegal52 off val => Sys2Proof.Machine.execPokeIllegal52 off val s
  | .pokeIllegal54 off val => Sys2Proof.Machine.execPokeIllegal54 off val s
  | .pokeIllegal58 off val => Sys2Proof.Machine.execPokeIllegal58 off val s
  | .pokeIllegal60 off val => Sys2Proof.Machine.execPokeIllegal60 off val s
  | .pokeIllegal82 off val => Sys2Proof.Machine.execPokeIllegal82 off val s
  | .pokeIllegal84 off val => Sys2Proof.Machine.execPokeIllegal84 off val s
  | .pokeIllegal86 val => Sys2Proof.Machine.execPokeIllegal86 val s
  | .pokeIllegal88 val => Sys2Proof.Machine.execPokeIllegal88 val s
  | .pokeIllegal8E off val => Sys2Proof.Machine.execPokeIllegal8E off val s
  | .pokeIllegal96 off val => Sys2Proof.Machine.execPokeIllegal96 off val s
  | .pokeIllegal98 off val => Sys2Proof.Machine.execPokeIllegal98 off val s
  | .pokeIllegal9F val => Sys2Proof.Machine.execPokeIllegal9F val s
  | .pokeIllegalC0 off val => Sys2Proof.Machine.execPokeIllegalC0 off val s
  | .update => Sys2Proof.Machine.execUpdate s
  | .advance n => Sys2Proof.Machine.execAdvance n s
  | .reset => Sys2Proof.Machine.execReset s
  | .rxInject w => Sys2Proof.Machine.execRxInject w s
  | .bindSurface => Sys2Proof.Machine.execBindSurface s
  | .setSkip b => Sys2Proof.Machine.execSetSkip b s
  | .setEpoch => Sys2Proof.Machine.execSetEpoch s
  | .setCallback b => Sys2Proof.Machine.execSetCallback b s

end Sys2Proof.Machine
end

