-- ==== Sys2Proof/Machine/Step.lean ====
section
/-! DEFINITION. One step: the block takes the host's next input and runs it to completion
(00_scope.md R7, R8; 20_memory.md R41, R45). -/

namespace Sys2Proof.Machine

/-- One step. With no input the block idles (notes/assumptions/1.md); a memory write of the host lands
between commands (20_memory.md R48); a command word is decoded and executed, a reserved class refused
(30_encoding.md R51). -/
def step (s : State) : Host.Outcome State Fault Refusal :=
  match s.takeInput with
  | none => .next s
  | some (.memWrite addr b, t) => .next (t.hostMemWrite addr b)
  | some (.command w, t) =>
    match decode w with
    | .ok i => exec i t
    | .error (.reservedClass cls) => .refused (.reservedClass cls)

/-- `s` with the command word `w` as the host's next input, so that the very next step runs it. -/
def State.withFetchWord (s : State) (nbits w : Nat) : State :=
  { s with pending := .command (BitVec.ofNat 20 (w % 2 ^ nbits)) :: s.pending }

end Sys2Proof.Machine
end

