-- ==== Sys2Proof/Machine/Pseudo.lean ====
section
/-! DEFINITION. The pseudo-commands, each an abbreviation of real commands (30_encoding.md R65), and the
reference host loop (40_update_dispatcher.md R80). -/

namespace Sys2Proof.Machine

/-- Go on after a command that completed. -/
def andThen (o : Host.Outcome State Fault Refusal) (f : State → Host.Outcome State Fault Refusal) :
    Host.Outcome State Fault Refusal :=
  match o with
  | .next s => f s
  | .fault r => .fault r
  | .refused r => .refused r

/-- Commands one after another. -/
def execAll : List Instr → State → Host.Outcome State Fault Refusal
  | [], s => .next s
  | i :: is, s => andThen (exec i s) (execAll is)

/-- `POKE16 DISPADR, v` (R65). -/
def poke16Dispadr (v : BitVec 16) : List Instr :=
  [.pokeDispadrl (v.extractLsb' 0 8), .pokeDispadrh (v.extractLsb' 8 8)]

/-- `PALETTE i, r, g, b` (R65). -/
def palette (i : Fin 16) (r g b : BitVec 4) : List Instr :=
  [.pokeGreen i (g.setWidth 8), .pokeBluered i (b ++ r)]

/-- `ADVANCE32 n`, as `n div 65535` times `ADVANCE 65535`, then `ADVANCE (n mod 65535)` (R65). -/
def advance32 (n : Nat) : List Instr :=
  List.replicate (n / 65535) (.advance 65535) ++ [.advance (BitVec.ofNat 16 (n % 65535))]

/-- `if cycle >= next_event then UPDATE`, unsigned (R80, 40_update_dispatcher.md R66). -/
def updateIfDue (s : State) : Host.Outcome State Fault Refusal :=
  if s.nextEvent ≤ s.cycle then exec .update s else .next s

/-- `n` turns of the host loop: one cycle, then UPDATE if it is due (R80). -/
def hostLoop : Nat → State → Host.Outcome State Fault Refusal
  | 0, s => .next s
  | n + 1, s => andThen (andThen (exec (.advance 1) s) updateIfDue) (hostLoop n)

/-- `RUN n` (R80). -/
def runFor (n : Nat) (s : State) : Host.Outcome State Fault Refusal := andThen (updateIfDue s) (hostLoop n)

end Sys2Proof.Machine
end

