-- ==== Sys2Proof/Safety.lean ====
section
/-! DEFINITION. What a safe run is, in the terms claims use: a step that completes, and the invariants
of the state that the spec states or derives. -/

namespace Sys2Proof.Machine

/-- The command or step completes with the next state `t`. -/
def CompletesWith (o : Host.Outcome State Fault Refusal) (t : State) : Prop := o = .next t

/-- The command or step completes. -/
def Completes (o : Host.Outcome State Fault Refusal) : Prop := ∃ t, CompletesWith o t

/-- The receive queue's invariant: `RXQ_DEPTH` slots and two indices below it (10_state.md R27),
`rxq_in = (rxq_out + rxq_waiting) mod RXQ_DEPTH`, at most `RXQ_DEPTH` words waiting, and the receive countdown
active iff a word waits (44_uart.md R144). -/
structure Uart.QueueOk (u : Uart) (p : Params) : Prop where
  slots : u.rxq.length = p.rxqDepth
  inIndex : u.rxqIn < p.rxqDepth
  outIndex : u.rxqOut < p.rxqDepth
  tail : u.rxqIn = (u.rxqOut + u.rxqWaiting) % p.rxqDepth
  room : u.rxqWaiting ≤ p.rxqDepth
  active : u.rxActive = true ↔ 0 < u.rxqWaiting

/-- The ranges of the countdowns, and the framing flag that nothing sets (10_state.md R27, R33). -/
structure Uart.InRange (u : Uart) (p : Params) : Prop where
  tx : u.txCount ≤ p.uartTxPeriod
  rx : u.rxCount ≤ p.uartRxPeriod + p.uartRxNextDelay
  framing : u.rxFraming = false

/-- No word the serial engine holds is wider than `UART_WORD_W` (10_state.md R27, 44_uart.md R142). -/
structure Uart.WordsFit (u : Uart) (p : Params) : Prop where
  queued : ∀ w ∈ u.rxq, p.word w = w
  transmit : p.word u.txData = u.txData
  receive : p.word u.rxData = u.rxData

/-- The ranges of the burst countdown and the output line index (10_state.md R25). -/
structure Display.InRange (d : Display) : Prop where
  burst : d.dmaLines ≤ Config.lines
  row : d.outLine ≤ Config.lines

/-- No count exceeds the 8-bit register: it is written with 0..255, only decremented, and a reload of a
negative count adds at most 256 (40_update_dispatcher.md R74). -/
def CountsInRange (s : State) : Prop := ∀ ref, (s.counter ref).current ≤ 255

/-- The mixer remembers the sums of the channels as they stand (42_audio.md R104: it emits "only the
delta from the previous mixed sample", after every change that can move a sum). -/
structure MixerCurrent (s : State) : Prop where
  left : s.mixer.lastLeft = s.leftSum
  right : s.mixer.lastRight = s.rightSum

/-- The invariant of the state that every step keeps. -/
structure State.Inv (s : State) : Prop where
  mem : Memory.wf s.mem = true
  surface : Surface.wf s.params s.surface = true
  queue : s.uart.QueueOk s.params
  uart : s.uart.InRange s.params
  words : s.uart.WordsFit s.params
  display : s.display.InRange
  counts : CountsInRange s
  mixer : MixerCurrent s

/-- What the two rebase parameters must satisfy for the rebase to do its work (40_update_dispatcher.md R69, D14):
a pass leaves `cycle` far enough below the top of the 32-bit range that no counter's next underflow, at most
256 ticks of 2^13 cycles away, wraps. The defaults do. -/
structure RebaseFits (p : Params) : Prop where
  threshold : p.rebaseThreshold.toNat + 2 ^ 21 < 2 ^ 32
  noBorrow : p.rebaseDelta.toNat ≤ p.rebaseThreshold.toNat + 1
  delta : 2 ^ 21 ≤ p.rebaseDelta.toNat

/-- `k` line strobes, or `k` ticks of any engine, one after another. -/
def repeated (f : State → State) : Nat → State → State
  | 0, s => s
  | k + 1, s => repeated f k (f s)

/-- The shift base a counter is stepped with: Timer 4 has the extra /8 (41_timers.md R86). -/
def shiftBase (ref : CounterRef) : Nat :=
  if ref = .timer 4 then Config.baseShift + Config.t4ExtraShift else Config.baseShift

/-- The link source of a counter whose selector is 7 (41_timers.md R82); none for the chain heads and for
Timers 0 and 6. -/
def linkSource : CounterRef → Option CounterRef
  | .timer n =>
    if n = 2 then some (.timer 0) else if n = 4 then some (.timer 2) else if n = 3 then some (.timer 1)
    else if n = 5 then some (.timer 3) else if n = 7 then some (.timer 5) else none
  | .audio c => if c = 0 then some (.timer 7) else some (.audio (c - 1))

/-- An engine called only if its counter underflowed. -/
def ranIf (fired : Bool) (engine : State → State) (s : State) : State := if fired then engine s else s

/-- The engine calls of a pass in the order of 40_update_dispatcher.md R67, each made once exactly if its counter
is among the fired ones: the line strobe of Timer 0 (41_timers.md R84), the frame strobe of Timer 2 (R85), the
UART tick of Timer 4 (R86), the four channels' underflow actions (42_audio.md R102). -/
def enginesRun (fired : CounterRef → Bool) (s : State) : State :=
  ranIf (fired (.audio 3)) (audioUnderflow 3) (ranIf (fired (.audio 2)) (audioUnderflow 2)
    (ranIf (fired (.audio 1)) (audioUnderflow 1) (ranIf (fired (.audio 0)) (audioUnderflow 0)
      (ranIf (fired (.timer 4)) uartTick (ranIf (fired (.timer 2)) endOfFrame
        (ranIf (fired (.timer 0)) renderLine s))))))

/-- `t` is `s` after a change of the mix's inputs followed by `Mix` (42_audio.md R104): the sums of `t` are
remembered, and each side's nonzero delta is appended to the trace, left first. -/
structure MixedFrom (s t : State) : Prop where
  left : t.mixer.lastLeft = t.leftSum
  right : t.mixer.lastRight = t.rightSum
  events : t.events = s.events ++
    (if t.leftSum = s.mixer.lastLeft then []
      else [.audioDelta .left ((s.cycle - s.mixer.mixEpoch) >>> Config.mixShift) (t.leftSum - s.mixer.lastLeft)]) ++
    (if t.rightSum = s.mixer.lastRight then []
      else [.audioDelta .right ((s.cycle - s.mixer.mixEpoch) >>> Config.mixShift) (t.rightSum - s.mixer.lastRight)])

end Sys2Proof.Machine
end

