-- ==== Sys2Proof/Certificates/Slice0/Obligations.lean ====
section
/-! DEFINITION. The statements about the model, in the order of OBLIGATIONS.json. A docstring names the rule of
spec/ a statement formalises and, where it rests on a decision the spec marks as its own or on a value from
general knowledge (GK), the decision or the log entry. The parameters of 00_scope.md R10 stand in the state
(`State.params`, log 21): a statement about every state holds for every value of them, and one that needs a value
names it (93 U21). -/

open Sys2Proof Sys2Proof.Machine

/-! ### Encoding -/

/-- 30_encoding.md R50 to R54 (the words are the spec's own device, D1, D2): decoding the word of a well-formed
command gives the command back, with every operand. -/
def Obligations.EncodeThenDecode : Prop :=
  ∀ i : Instr, i.wellFormed = true → decode (encode i) = .ok i

/-- 30_encoding.md R52, R54 (D1, D2): what the decoder reads from a word is well-formed, and the word lies in the
opcode-table row of that command. -/
def Obligations.DecodedWordLiesInItsRow : Prop :=
  ∀ (w : CmdWord) (i : Instr), decode w = .ok i → i.wellFormed = true ∧ i.row.holds w = true

/-- 30_encoding.md R54: "exactly one row matches any word of class 0 to 9" (the table is the spec's, D1, D2). -/
def Obligations.OneRowPerWord : Prop :=
  ∀ w : CmdWord, (CmdWord.cls w).toNat ≤ 9 →
    ∃ r : Row, r.holds w = true ∧ (∃ i : Instr, i.row = r) ∧ ∀ j : Instr, j.row.holds w = true → j.row = r

/-- 30_encoding.md R51, R63 (D1): the decoder gives every word of class 0 to 9 a meaning and refuses every word of
class 0xA to 0xF by its class; a step that takes such a word is refused under that class, whatever the state. -/
def Obligations.DecoderIsTotal : Prop :=
  ∀ w : CmdWord,
    ((CmdWord.cls w).toNat ≤ 9 → ∃ i, decode w = .ok i) ∧
    (9 < (CmdWord.cls w).toNat →
      decode w = .error (.reservedClass (CmdWord.cls w)) ∧
      ∀ (s : State) (rest : List HostInput), s.pending = .command w :: rest →
        step s = .refused (.reservedClass (CmdWord.cls w)))

/-- 30_encoding.md R51 (D1): "An ignored bit may hold 0 or 1 and the command means the same". -/
def Obligations.IgnoredBitsDoNotMatter : Prop :=
  ∀ a a' d d' : Byte,
    decode (mkWord 0x0 a d) = decode (mkWord 0x0 a d') ∧
    decode (mkWord 0x2 a d) = decode (mkWord 0x2 a' d') ∧
    decode (mkWord 0x4 a d) = decode (mkWord 0x4 a' d') ∧
    decode (mkWord 0x6 a d) = decode (mkWord 0x6 a' d') ∧
    decode (mkWord 0x8 a d) = decode (mkWord 0x8 a' d') ∧
    (d.getLsbD 0 = d'.getLsbD 0 →
      decode (mkWord 0x7 a d) = decode (mkWord 0x7 a' d') ∧ decode (mkWord 0x9 a d) = decode (mkWord 0x9 a' d'))

/-- Words written out from the tables of 30_encoding.md R51, R53 and R54, one or two of each family. -/
def Obligations.SampleWordsDecode : Prop :=
  decode 0b0001_00001101_10011000#20 = .ok (.pokeTimCtla 3 0x98) ∧
  decode 0b0000_00000110_00000000#20 = .ok (.peekTimCnt 1) ∧
  decode 0b0001_00110000_01000000#20 = .ok (.pokeAudVol 2 0x40) ∧
  decode 0b0000_00111111_00000000#20 = .ok (.peekAudMisc 3) ∧
  decode 0b0001_01000001_10000000#20 = .ok (.pokeAtten 1 0x80) ∧
  decode 0b0001_10101010_00001011#20 = .ok (.pokeGreen 10 0x0B) ∧
  decode 0b0001_10010101_11000000#20 = .ok (.pokeDispadrh 0xC0) ∧
  decode 0b0001_10001101_01011010#20 = .ok (.pokeSerdat 0x5A) ∧
  decode 0b0000_11000000_00000000#20 = .ok (.peekIllegalC0 0xC0) ∧
  decode 0b0011_00000000_10100000#20 = .ok (.advance 160) ∧
  decode 0b1010_00000000_00000000#20 = .error (.reservedClass 0xA)

/-! ### One step -/

/-- A step runs the decoded command on the state with that input taken (00_scope.md R7, 20_memory.md R45). That the
inputs wait in a list and that the last result is cleared are the model's conventions (logs 1, 2). The second
part is the interface's `withFetchWord`. -/
def Obligations.StepRunsTheDecodedCommand : Prop :=
  (∀ (s : State) (w : CmdWord) (rest : List HostInput) (i : Instr),
    s.pending = .command w :: rest → decode w = .ok i →
      step s = exec i { s with pending := rest, result := none }) ∧
  (∀ (s : State) (w : CmdWord) (i : Instr), decode w = .ok i →
      step (s.withFetchWord 20 w.toNat) = exec i { s with result := none })

/-- A byte the host writes between commands is read back at its address and every other address reads as before
(20_memory.md R36, R48); nothing of the block changes. The input list and the canonical form of memory, an invariant
every step keeps (StepKeepsInvariant), are the model's (logs 1, 7). -/
def Obligations.StepHostMemoryWrite : Prop :=
  ∀ (s : State) (adr : BitVec 16) (b : Byte) (rest : List HostInput),
    Memory.wf s.mem = true → s.pending = .memWrite adr b :: rest →
      ∃ t, step s = .next t ∧ Memory.read t.mem adr = b ∧
        (∀ adr', adr' ≠ adr → Memory.read t.mem adr' = Memory.read s.mem adr') ∧
        t = { s with pending := rest, result := none, mem := t.mem }

/-! ### Timer registers -/

/-- 41_timers.md R92, R94, R98: the three plain timer reads, bit by bit, with their words; nothing else changes. -/
def Obligations.TimerPlainPeeks : Prop :=
  ∀ (n : Fin 8) (d : Byte) (s : State),
    (decode (mkWord 0x0 (0b000#3 ++ BitVec.ofNat 3 n ++ 0b00#2) d) = .ok (.peekTimBkup n) ∧
      exec (.peekTimBkup n) s = .next { s with result := some (s.timer n).ctr.backup }) ∧
    (decode (mkWord 0x0 (0b000#3 ++ BitVec.ofNat 3 n ++ 0b01#2) d) = .ok (.peekTimCtla n) ∧
      ∃ b : Byte, exec (.peekTimCtla n) s = .next { s with result := some b } ∧
        b.getLsbD 7 = s.intMask.getLsbD n ∧ b.getLsbD 6 = false ∧ b.getLsbD 5 = false ∧
        b.getLsbD 4 = (s.timer n).ctr.enableReload ∧ b.getLsbD 3 = (s.timer n).ctr.enableCount ∧
        b.extractLsb' 0 3 = (s.timer n).ctr.linking) ∧
    (decode (mkWord 0x0 (0b000#3 ++ BitVec.ofNat 3 n ++ 0b11#2) d) = .ok (.peekTimCtlb n) ∧
      ∃ b : Byte, exec (.peekTimCtlb n) s = .next { s with result := some b } ∧
        b.extractLsb' 4 4 = 0 ∧ b.getLsbD 3 = (s.timer n).ctr.done ∧ b.getLsbD 2 = false ∧
        b.getLsbD 1 = (s.timer n).ctr.borrowIn ∧ b.getLsbD 0 = (s.timer n).ctr.borrowOut)

/-- 41_timers.md R96, 42_audio.md R118: a read of a count register runs the pass an UPDATE runs and then returns the low
8 bits of `current`, also when it is negative. -/
def Obligations.CountPeeksRunAPass : Prop :=
  ∀ s : State, ∃ t, exec .update s = .next t ∧
    (∀ (n : Fin 8) (d : Byte),
      decode (mkWord 0x0 (0b000#3 ++ BitVec.ofNat 3 n ++ 0b10#2) d) = .ok (.peekTimCnt n) ∧
      exec (.peekTimCnt n) s = .next { t with result := some (BitVec.ofInt 8 (t.timer n).ctr.current) }) ∧
    (∀ (c : Fin 4) (d : Byte),
      decode (mkWord 0x0 (0b001#3 ++ BitVec.ofNat 2 c ++ 0b110#3) d) = .ok (.peekAudCount c) ∧
      exec (.peekAudCount c) s = .next { t with result := some (BitVec.ofInt 8 (t.channel c).ctr.current) })

/-- 41_timers.md R93, R97, R99 (D13, D3): writes of TIMnBKUP, TIMnCNT, TIMnCTLB: the named fields, `next_event <- cycle`,
and nothing else. -/
def Obligations.TimerFieldPokes : Prop :=
  ∀ (n : Fin 8) (val : Byte) (s : State),
    (∃ t, exec (.pokeTimBkup n val) s = .next t ∧
      t.timer n = { s.timer n with ctr := { (s.timer n).ctr with backup := val } } ∧
      (∀ m, m ≠ n → t.timer m = s.timer m) ∧ t = { s with timers := t.timers, nextEvent := s.cycle }) ∧
    (∃ t, exec (.pokeTimCnt n val) s = .next t ∧
      t.timer n = { s.timer n with ctr := { (s.timer n).ctr with current := (val.toNat : Int) } } ∧
      (∀ m, m ≠ n → t.timer m = s.timer m) ∧ t = { s with timers := t.timers, nextEvent := s.cycle }) ∧
    (∃ t, exec (.pokeTimCtlb n val) s = .next t ∧
      t.timer n =
        { s.timer n with
          ctr :=
            { (s.timer n).ctr with
              done := val.getLsbD 3, borrowIn := val.getLsbD 1, borrowOut := val.getLsbD 0 } } ∧
      (∀ m, m ≠ n → t.timer m = s.timer m) ∧ t = { s with timers := t.timers, nextEvent := s.cycle })

/-- 41_timers.md R95 (D13; the restart of the tick phase is GK, log 11): a write of TIMnCTLA. -/
def Obligations.TimerControlPoke : Prop :=
  ∀ (n : Fin 8) (val : Byte) (s : State), ∃ t, exec (.pokeTimCtla n val) s = .next t ∧
    (∀ m : Fin 8, t.intMask.getLsbD m = if m = n then val.getLsbD 7 else s.intMask.getLsbD m) ∧
    t.timer n =
      { s.timer n with
        ctr :=
          { (s.timer n).ctr with
            enableReload := val.getLsbD 4
            enableCount := val.getLsbD 3
            linking := val.extractLsb' 0 3
            done := if val.getLsbD 6 = true then false else (s.timer n).ctr.done
            lastClock :=
              if val.getLsbD 6 = true ∨ val.getLsbD 3 = true then s.cycle else (s.timer n).ctr.lastClock } } ∧
    (∀ m, m ≠ n → t.timer m = s.timer m) ∧
    t = { s with timers := t.timers, intMask := t.intMask, nextEvent := s.cycle }

/-! ### Audio registers -/

/-- 42_audio.md R106, R108, R110, R112, R114, R116, R120: the plain reads of a channel, bit by bit, with their words. -/
def Obligations.AudioPlainPeeks : Prop :=
  ∀ (c : Fin 4) (d : Byte) (s : State),
    (decode (mkWord 0x0 (0b001#3 ++ BitVec.ofNat 2 c ++ 0b000#3) d) = .ok (.peekAudVol c) ∧
      exec (.peekAudVol c) s = .next { s with result := some (s.channel c).volume }) ∧
    (decode (mkWord 0x0 (0b001#3 ++ BitVec.ofNat 2 c ++ 0b001#3) d) = .ok (.peekAudShftfb c) ∧
      exec (.peekAudShftfb c) s =
        .next { s with result := some ((s.channel c).waveshaper.extractLsb' 13 8) }) ∧
    (decode (mkWord 0x0 (0b001#3 ++ BitVec.ofNat 2 c ++ 0b010#3) d) = .ok (.peekAudOutval c) ∧
      exec (.peekAudOutval c) s = .next { s with result := some (s.channel c).output }) ∧
    (decode (mkWord 0x0 (0b001#3 ++ BitVec.ofNat 2 c ++ 0b011#3) d) = .ok (.peekAudL8shft c) ∧
      exec (.peekAudL8shft c) s = .next { s with result := some ((s.channel c).waveshaper.extractLsb' 0 8) }) ∧
    (decode (mkWord 0x0 (0b001#3 ++ BitVec.ofNat 2 c ++ 0b100#3) d) = .ok (.peekAudTback c) ∧
      exec (.peekAudTback c) s = .next { s with result := some (s.channel c).ctr.backup }) ∧
    (decode (mkWord 0x0 (0b001#3 ++ BitVec.ofNat 2 c ++ 0b101#3) d) = .ok (.peekAudCtl c) ∧
      ∃ b : Byte, exec (.peekAudCtl c) s = .next { s with result := some b } ∧
        b.getLsbD 7 = (s.channel c).waveshaper.getLsbD 12 ∧ b.getLsbD 6 = false ∧
        b.getLsbD 5 = (s.channel c).integrate ∧ b.getLsbD 4 = (s.channel c).ctr.enableReload ∧
        b.getLsbD 3 = (s.channel c).ctr.enableCount ∧ b.extractLsb' 0 3 = (s.channel c).ctr.linking) ∧
    (decode (mkWord 0x0 (0b001#3 ++ BitVec.ofNat 2 c ++ 0b111#3) d) = .ok (.peekAudMisc c) ∧
      ∃ b : Byte, exec (.peekAudMisc c) s = .next { s with result := some b } ∧
        b.extractLsb' 4 4 = (s.channel c).waveshaper.extractLsb' 8 4 ∧ b.getLsbD 3 = false ∧
        b.getLsbD 2 = false ∧ b.getLsbD 1 = (s.channel c).ctr.borrowIn ∧
        b.getLsbD 0 = (s.channel c).ctr.borrowOut)

/-- 42_audio.md R107, R115, R119 (R77, D13): writes of AUDcVOL, AUDcTBACK, AUDcCOUNT: the named field, `next_event <-
cycle`, no mix and nothing else. -/
def Obligations.AudioFieldPokes : Prop :=
  ∀ (c : Fin 4) (val : Byte) (s : State),
    (∃ t, exec (.pokeAudVol c val) s = .next t ∧ t.channel c = { s.channel c with volume := val } ∧
      (∀ m, m ≠ c → t.channel m = s.channel m) ∧ t = { s with audio := t.audio, nextEvent := s.cycle }) ∧
    (∃ t, exec (.pokeAudTback c val) s = .next t ∧
      t.channel c = { s.channel c with ctr := { (s.channel c).ctr with backup := val } } ∧
      (∀ m, m ≠ c → t.channel m = s.channel m) ∧ t = { s with audio := t.audio, nextEvent := s.cycle }) ∧
    (∃ t, exec (.pokeAudCount c val) s = .next t ∧
      t.channel c = { s.channel c with ctr := { (s.channel c).ctr with current := (val.toNat : Int) } } ∧
      (∀ m, m ≠ c → t.channel m = s.channel m) ∧ t = { s with audio := t.audio, nextEvent := s.cycle })

/-- 42_audio.md R109, R113, R121 (R77, D13; layout D17): writes of AUDcSHFTFB, AUDcL8SHFT, AUDcMISC replace bits 20:13,
7:0 and 11:8 of the waveshaper and keep its other bits; AUDcMISC also writes the two borrow flags. -/
def Obligations.WaveshaperPokes : Prop :=
  ∀ (c : Fin 4) (val : Byte) (s : State),
    (∃ t, exec (.pokeAudShftfb c val) s = .next t ∧
      (∀ k, k < 21 → (t.channel c).waveshaper.getLsbD k =
        if 13 ≤ k then val.getLsbD (k - 13) else (s.channel c).waveshaper.getLsbD k) ∧
      t.channel c = { s.channel c with waveshaper := (t.channel c).waveshaper } ∧
      (∀ m, m ≠ c → t.channel m = s.channel m) ∧ t = { s with audio := t.audio, nextEvent := s.cycle }) ∧
    (∃ t, exec (.pokeAudL8shft c val) s = .next t ∧
      (∀ k, k < 21 → (t.channel c).waveshaper.getLsbD k =
        if k < 8 then val.getLsbD k else (s.channel c).waveshaper.getLsbD k) ∧
      t.channel c = { s.channel c with waveshaper := (t.channel c).waveshaper } ∧
      (∀ m, m ≠ c → t.channel m = s.channel m) ∧ t = { s with audio := t.audio, nextEvent := s.cycle }) ∧
    (∃ t, exec (.pokeAudMisc c val) s = .next t ∧
      (∀ k, k < 21 → (t.channel c).waveshaper.getLsbD k =
        if 8 ≤ k ∧ k < 12 then val.getLsbD (k - 4) else (s.channel c).waveshaper.getLsbD k) ∧
      t.channel c =
        { s.channel c with
          ctr := { (s.channel c).ctr with borrowIn := val.getLsbD 1, borrowOut := val.getLsbD 0 }
          waveshaper := (t.channel c).waveshaper } ∧
      (∀ m, m ≠ c → t.channel m = s.channel m) ∧ t = { s with audio := t.audio, nextEvent := s.cycle })

/-- 42_audio.md R117 (D13; the restart of the tick phase is GK, log 11): a write of AUDcCTL. -/
def Obligations.AudioControlPoke : Prop :=
  ∀ (c : Fin 4) (val : Byte) (s : State), ∃ t, exec (.pokeAudCtl c val) s = .next t ∧
    (∀ k, k < 21 → (t.channel c).waveshaper.getLsbD k =
      if k = 12 then val.getLsbD 7 else (s.channel c).waveshaper.getLsbD k) ∧
    t.channel c =
      { s.channel c with
        ctr :=
          { (s.channel c).ctr with
            enableReload := val.getLsbD 4
            enableCount := val.getLsbD 3
            linking := val.extractLsb' 0 3
            done := if val.getLsbD 6 = true then false else (s.channel c).ctr.done
            lastClock :=
              if val.getLsbD 6 = true ∨ val.getLsbD 3 = true then s.cycle else (s.channel c).ctr.lastClock }
        waveshaper := (t.channel c).waveshaper
        integrate := val.getLsbD 5 } ∧
    (∀ m, m ≠ c → t.channel m = s.channel m) ∧ t = { s with audio := t.audio, nextEvent := s.cycle }

/-- 42_audio.md R111 (R77, D13; the mix R104, D19, D20): a write of AUDcOUTVAL stores the sample, mixes and reschedules. -/
def Obligations.OutputPokeMixes : Prop :=
  ∀ (c : Fin 4) (val : Byte) (s : State), ∃ t, exec (.pokeAudOutval c val) s = .next t ∧
    t.channel c = { s.channel c with output := val } ∧ (∀ m, m ≠ c → t.channel m = s.channel m) ∧
    MixedFrom s t ∧
    t = { s with
      audio := t.audio
      mixer := { s.mixer with lastLeft := t.mixer.lastLeft, lastRight := t.mixer.lastRight }
      events := t.events
      nextEvent := s.cycle }

/-- 42_audio.md R123, R125, R127 (the mix R104, D19, D20; `MSTEREO_XOR` log 15): writes of ATTENc, MPAN and MSTEREO store
the byte and mix; `next_event` and every channel stay. -/
def Obligations.MixerPokesMix : Prop :=
  ∀ (c : Fin 4) (val : Byte) (s : State),
    (∃ t, exec (.pokeAtten c val) s = .next t ∧ t.attenuation c = val ∧
      (∀ m, m ≠ c → t.attenuation m = s.attenuation m) ∧ MixedFrom s t ∧
      t = { s with
        mixer := { s.mixer with
          atten := t.mixer.atten, lastLeft := t.mixer.lastLeft, lastRight := t.mixer.lastRight }
        events := t.events }) ∧
    (∃ t, exec (.pokeMpan val) s = .next t ∧ MixedFrom s t ∧
      t = { s with
        mixer := { s.mixer with pan := val, lastLeft := t.mixer.lastLeft, lastRight := t.mixer.lastRight }
        events := t.events }) ∧
    (∃ t, exec (.pokeMstereo val) s = .next t ∧ MixedFrom s t ∧
      t = { s with
        mixer := { s.mixer with
          stereoEnable := val ^^^ s.params.mstereoXor
          lastLeft := t.mixer.lastLeft
          lastRight := t.mixer.lastRight }
        events := t.events })

/-- 42_audio.md R122, R124, R126: reads of ATTENc, MPAN and MSTEREO, with their words; MSTEREO through `MSTEREO_XOR`, so
the byte read is the byte written whatever the parameter is. -/
def Obligations.MixerPeeks : Prop :=
  ∀ (c : Fin 4) (d val : Byte) (s : State),
    (decode (mkWord 0x0 (0b010000#6 ++ BitVec.ofNat 2 c) d) = .ok (.peekAtten c) ∧
      exec (.peekAtten c) s = .next { s with result := some (s.attenuation c) }) ∧
    (decode (mkWord 0x0 0x44 d) = .ok .peekMpan ∧ exec .peekMpan s = .next { s with result := some s.mixer.pan }) ∧
    (decode (mkWord 0x0 0x50 d) = .ok .peekMstereo ∧
      exec .peekMstereo s = .next { s with result := some (s.mixer.stereoEnable ^^^ s.params.mstereoXor) }) ∧
    (∃ t, exec (.pokeMstereo val) s = .next t ∧ exec .peekMstereo t = .next { t with result := some val })

/-! ### Display registers -/

/-- 43_display.md R135 (D3), R136, R137 (D24): writes of DISPCTL, DISPADRL, DISPADRH; a running burst, `dma_addr` and
`next_event` stay. -/
def Obligations.DisplayControlPokes : Prop :=
  ∀ (val : Byte) (s : State),
    exec (.pokeDispctl val) s =
      .next { s with display := { s.display with
        dmaEnable := val.getLsbD 0, flip := val.getLsbD 1, fourbit := val.getLsbD 2, colour := val.getLsbD 3 } } ∧
    exec (.pokeDispadrl val) s =
      .next { s with display := { s.display with dispAddr := s.display.dispAddr.extractLsb' 8 8 ++ val } } ∧
    exec (.pokeDispadrh val) s =
      .next { s with display := { s.display with dispAddr := val ++ s.display.dispAddr.extractLsb' 0 8 } }

/-- 43_display.md R138, R139, R140, R141: reads and writes of the palette pair, with their words, and the round trip: a
pair written is read back nibble by nibble, masked to 4 bits. -/
def Obligations.PaletteAccess : Prop :=
  ∀ (i : Fin 16) (d val : Byte) (s : State),
    (decode (mkWord 0x0 (0b1010#4 ++ BitVec.ofNat 4 i) d) = .ok (.peekGreen i) ∧
      exec (.peekGreen i) s = .next { s with result := some ((s.palEntry i).g.setWidth 8) }) ∧
    (decode (mkWord 0x1 (0b1010#4 ++ BitVec.ofNat 4 i) val) = .ok (.pokeGreen i val) ∧
      ∃ t, exec (.pokeGreen i val) s = .next t ∧
        t.palEntry i = { s.palEntry i with g := val.extractLsb' 0 4 } ∧
        (∀ k, k ≠ i → t.palEntry k = s.palEntry k) ∧
        t = { s with display := { s.display with pal := t.display.pal } } ∧
        exec (.peekGreen i) t = .next { t with result := some (val &&& 0x0F) }) ∧
    (decode (mkWord 0x0 (0b1011#4 ++ BitVec.ofNat 4 i) d) = .ok (.peekBluered i) ∧
      exec (.peekBluered i) s = .next { s with result := some ((s.palEntry i).b ++ (s.palEntry i).r) }) ∧
    (decode (mkWord 0x1 (0b1011#4 ++ BitVec.ofNat 4 i) val) = .ok (.pokeBluered i val) ∧
      ∃ t, exec (.pokeBluered i val) s = .next t ∧
        t.palEntry i = { s.palEntry i with b := val.extractLsb' 4 4, r := val.extractLsb' 0 4 } ∧
        (∀ k, k ≠ i → t.palEntry k = s.palEntry k) ∧
        t = { s with display := { s.display with pal := t.display.pal } } ∧
        exec (.peekBluered i) t = .next { t with result := some val })

/-! ### Host commands -/

/-- 40_update_dispatcher.md R79, 43_display.md R129 (D23), R130, 42_audio.md R105 (D20), 44_uart.md R150: ADVANCE,
BINDSURFACE, SETSKIP, SETEPOCH and SETCALLBACK write the one or two fields named and nothing else. That BINDSURFACE
keeps the list of pixels written so far is the model's choice (log 9): 00_scope.md R8 binds "a fresh surface". -/
def Obligations.HostCommands : Prop :=
  ∀ (n : BitVec 16) (b : Bool) (s : State),
    exec (.advance n) s = .next { s with cycle := s.cycle + n.setWidth 32 } ∧
    exec .bindSurface s = .next { s with display := { s.display with surfaceBound := true, outLine := 0 } } ∧
    exec (.setSkip b) s = .next { s with display := { s.display with skipFrame := b } } ∧
    exec .setEpoch s = .next { s with mixer := { s.mixer with mixEpoch := s.cycle } } ∧
    exec (.setCallback b) s = .next { s with uart := { s.uart with callbackBound := b } }

/-- 70_reset_and_hazards.md R178, R179 (D33): RESET brings every field of the block to its reset value and leaves `cycle`,
`halt`, the surface, system memory and the host's side; the four reads the rules give as examples follow, that of
IODAT being the five input levels `IO_IN`, whatever they are (0x11 with the default, GK: log 16). That the parameters,
the trace and the input list stand in the state, and that the surface's pixels are kept, is the model's (logs 21, 1,
2, 3, 9). -/
def Obligations.ResetCommand : Prop :=
  ∀ s : State, ∃ t, exec .reset s = .next t ∧
    t = { State.reset with
      params := s.params, uart := { State.reset.uart with rxq := List.replicate s.params.rxqDepth 0 }
      cycle := s.cycle, halt := s.halt, surface := s.surface, mem := s.mem, events := s.events,
      result := s.result, pending := s.pending } ∧
    exec .peekSerctl t = .next { t with result := some 0xA0 } ∧
    exec .peekIntrst t = .next { t with result := some 0x00 } ∧
    exec (.peekTimCtla 0) t = .next { t with result := some 0x00 } ∧
    exec .peekIodat t = .next { t with result := some (0#3 ++ s.params.ioIn) } ∧
    (s.params.ioIn = Params.default.ioIn → 0#3 ++ s.params.ioIn = 0x11#8)

/-! ### Serial registers and the serial engine -/

/-- 44_uart.md R151: the status byte, bit by bit, with its word; the read changes nothing. -/
def Obligations.SerialStatusPeek : Prop :=
  ∀ (d : Byte) (s : State),
    decode (mkWord 0x0 0x8C d) = .ok .peekSerctl ∧
    ∃ b : Byte, exec .peekSerctl s = .next { s with result := some b } ∧
      (b.getLsbD 7 = true ↔ s.uart.txActive = false) ∧ b.getLsbD 6 = s.uart.rxReady ∧
      (b.getLsbD 5 = true ↔ s.uart.txActive = false) ∧ b.getLsbD 4 = false ∧
      b.getLsbD 3 = s.uart.rxOverrun ∧ b.getLsbD 2 = s.uart.rxFraming ∧
      b.getLsbD 1 = s.uart.rxData.getLsbD 15 ∧ b.getLsbD 0 = s.uart.rxData.getLsbD 8

/-- 44_uart.md R152 (D13, D29, D30): a write of SERCTL: the five flags, the error reset, and with TXBRK = 1 the
transmitter armed for `UART_TX_PERIOD` and a break word looped back (`Uart.loopback`, stated by QueueInsertion). -/
def Obligations.SerialControlPoke : Prop :=
  ∀ (val : Byte) (s : State), ∃ (t : State) (u : Uart), exec (.pokeSerctl val) s = .next t ∧
    u = { s.uart with
      txIrqEnable := val.getLsbD 7
      rxIrqEnable := val.getLsbD 6
      parityEnable := val.getLsbD 4
      sendBreak := val.getLsbD 1
      parityEven := val.getLsbD 0
      rxOverrun := if val.getLsbD 3 = true then false else s.uart.rxOverrun
      rxFraming := if val.getLsbD 3 = true then false else s.uart.rxFraming } ∧
    t.uart =
      (if val.getLsbD 1 = true then
        ({ u with txActive := true, txCount := s.params.uartTxPeriod }).loopback s.params s.params.breakWord
      else u) ∧
    t = { s with uart := t.uart, nextEvent := s.cycle }

/-- 44_uart.md R153, R154 (D29, D30): SERDAT reads the low byte of `rx_data` and clears `rx_ready`; a write arms the
transmitter for `UART_TX_PERIOD` and loops the word back; `next_event` stays. -/
def Obligations.SerialDataAccess : Prop :=
  ∀ (val : Byte) (s : State),
    exec .peekSerdat s =
      .next { s with
        uart := { s.uart with rxReady := false }
        result := some (s.uart.rxData.extractLsb' 0 8) } ∧
    exec (.pokeSerdat val) s =
      .next { s with
        uart :=
          ({ s.uart with
            txData := s.params.word (val.setWidth 16)
            txActive := true
            txCount := s.params.uartTxPeriod }).loopback s.params (s.params.word (val.setWidth 16)) }

/-- 44_uart.md R142, R145, R149 (D26, D27): RXINJECT puts the word, cut to `UART_WORD_W` bits, at the back of the queue; a
looped-back word goes to the front; an empty queue arms the receive countdown; a full queue drops the word. The
premise is the queue's invariant (R144), which every step keeps (StepKeepsInvariant). -/
def Obligations.QueueInsertion : Prop :=
  (∀ (w : SerialWord) (s : State),
    exec (.rxInject w) s = .next { s with uart := s.uart.enqueueTail s.params (s.params.word w) } ∧
    ∀ k, k < 16 → (s.params.word w).getLsbD k = (decide (k < s.params.uartWordW) && w.getLsbD k)) ∧
  ∀ (w : SerialWord) (p : Params) (u : Uart), u.QueueOk p →
    (u.rxqWaiting = p.rxqDepth → u.loopback p w = u ∧ u.enqueueTail p w = u) ∧
    (u.rxqWaiting < p.rxqDepth →
      ((u.loopback p w).rxqOut = (u.rxqOut + (p.rxqDepth - 1)) % p.rxqDepth ∧
        (u.loopback p w).rxq.length = p.rxqDepth ∧
        (∀ k, k < p.rxqDepth → (u.loopback p w).slot k = if k = (u.loopback p w).rxqOut then w else u.slot k) ∧
        u.loopback p w =
          { u with
            rxActive := true
            rxCount := if u.rxqWaiting = 0 then p.uartRxPeriod else u.rxCount
            rxqOut := (u.loopback p w).rxqOut
            rxq := (u.loopback p w).rxq
            rxqWaiting := u.rxqWaiting + 1 }) ∧
      ((u.enqueueTail p w).rxqIn = (u.rxqIn + 1) % p.rxqDepth ∧
        (u.enqueueTail p w).rxq.length = p.rxqDepth ∧
        (∀ k, k < p.rxqDepth → (u.enqueueTail p w).slot k = if k = u.rxqIn then w else u.slot k) ∧
        u.enqueueTail p w =
          { u with
            rxActive := true
            rxCount := if u.rxqWaiting = 0 then p.uartRxPeriod else u.rxCount
            rxqIn := (u.enqueueTail p w).rxqIn
            rxq := (u.enqueueTail p w).rxq
            rxqWaiting := u.rxqWaiting + 1 }))

/-- 44_uart.md R146 (D26, D28, D29), the receive side of one tick, whatever the transmitter does: inactive, nothing; a
running countdown counts; at its expiry the head of the queue is delivered, overrun being raised when the last word
was not read, and the countdown is re-armed for a further word. The tick then shows these data registers, and with no
transmission expiring under a latched break this very queue and countdown; only the UART and the output trace change
in a tick, and with both countdowns inactive nothing. The premise is the queue's invariant (R144). -/
def Obligations.SerialTickReceives : Prop :=
  ∀ s : State, s.uart.QueueOk s.params →
    ∃ (t : State) (u : Uart), t = uartTick s ∧ u = s.uart.receiveTick s.params ∧
      t = { s with uart := t.uart, events := t.events } ∧
      (s.uart.rxActive = false → u = s.uart) ∧
      (s.uart.rxActive = true → s.uart.rxCount ≠ 0 → u = { s.uart with rxCount := s.uart.rxCount - 1 }) ∧
      (s.uart.rxActive = true → s.uart.rxCount = 0 →
        u = { s.uart with
          rxOverrun := s.uart.rxOverrun || s.uart.rxReady
          rxData := s.uart.slot s.uart.rxqOut
          rxReady := true
          rxqOut := (s.uart.rxqOut + 1) % s.params.rxqDepth
          rxqWaiting := s.uart.rxqWaiting - 1
          rxActive := decide (1 < s.uart.rxqWaiting)
          rxCount :=
            if 1 < s.uart.rxqWaiting then s.params.uartRxPeriod + s.params.uartRxNextDelay else 0 }) ∧
      t.uart.rxData = u.rxData ∧ t.uart.rxReady = u.rxReady ∧ t.uart.rxOverrun = u.rxOverrun ∧
      (¬(s.uart.txActive = true ∧ s.uart.txCount = 0 ∧ s.uart.sendBreak = true) →
        t.uart = { u with txActive := t.uart.txActive, txCount := t.uart.txCount }) ∧
      (s.uart.rxActive = false → s.uart.txActive = false → t = s)

/-- 44_uart.md R146 (D26, D28), the transmit side of one tick: at its expiry the transmitter goes idle, or with a latched
break starts again with the break code, which is looped back to the front of the queue as the receive side left it,
or dropped there if that is full; either way a bound callback gets the word as it then stands, once. The premise of
the queue clause is the queue's invariant (R144). -/
def Obligations.SerialTickTransmits : Prop :=
  ∀ s : State,
    (s.uart.txActive = true → s.uart.txCount ≠ 0 →
      (uartTick s).uart.txActive = true ∧ (uartTick s).uart.txCount = s.uart.txCount - 1 ∧
      (uartTick s).uart.txData = s.uart.txData ∧ (uartTick s).events = s.events) ∧
    (s.uart.txActive = true → s.uart.txCount = 0 →
      (uartTick s).uart.txActive = s.uart.sendBreak ∧
      (uartTick s).uart.txCount = (if s.uart.sendBreak = true then s.params.uartTxPeriod else 0) ∧
      (uartTick s).uart.txData = (if s.uart.sendBreak = true then s.params.breakWord else s.uart.txData) ∧
      (uartTick s).events =
        s.events ++ (if s.uart.callbackBound = true then [.txByte (uartTick s).uart.txData] else [])) ∧
    (s.uart.txActive = true → s.uart.txCount = 0 → s.uart.sendBreak = true → s.uart.QueueOk s.params →
      ∃ u v : Uart, u = s.uart.receiveTick s.params ∧ v = (uartTick s).uart ∧
        (u.rxqWaiting = s.params.rxqDepth →
          v = { u with txData := s.params.breakWord, txCount := s.params.uartTxPeriod }) ∧
        (u.rxqWaiting < s.params.rxqDepth →
          v.rxqOut = (u.rxqOut + (s.params.rxqDepth - 1)) % s.params.rxqDepth ∧
          v.rxq.length = s.params.rxqDepth ∧
          (∀ k, k < s.params.rxqDepth → v.slot k = if k = v.rxqOut then s.params.breakWord else u.slot k) ∧
          v = { u with
            txData := s.params.breakWord
            txCount := s.params.uartTxPeriod
            rxActive := true
            rxCount := if u.rxqWaiting = 0 then s.params.uartRxPeriod else u.rxCount
            rxqOut := v.rxqOut
            rxq := v.rxq
            rxqWaiting := u.rxqWaiting + 1 })) ∧
    (s.uart.txActive = false → (uartTick s).events = s.events ∧ (uartTick s).uart.txActive = false)

/-- The loopback law, 44_uart.md R148 (D26, D27): a byte written to SERDAT while the queue has room and no break is latched
is in `rx_data` with `rx_ready` set at the expiry of the receive countdown: the (`UART_RX_PERIOD` + 1)-th Timer 4
underflow if the queue was empty (the 12th with the default, GK: log 14), else when the running countdown expires.
With an empty queue and a transmit period not above the receive period the transmitter is then idle and a bound
callback has been handed exactly that word. -/
def Obligations.LoopbackDelivers : Prop :=
  ∀ (s t : State) (val : Byte),
    s.uart.QueueOk s.params → s.uart.rxqWaiting < s.params.rxqDepth → s.uart.sendBreak = false →
    exec (.pokeSerdat val) s = .next t →
      ∃ u, u = repeated uartTick
            ((if s.uart.rxqWaiting = 0 then s.params.uartRxPeriod else s.uart.rxCount) + 1) t ∧
        u.uart.rxData = s.params.word (val.setWidth 16) ∧ u.uart.rxReady = true ∧
        (s.uart.rxqWaiting = 0 → s.params.uartTxPeriod ≤ s.params.uartRxPeriod →
          u.uart.txActive = false ∧ u.uart.rxActive = false ∧
          u.events = s.events ++
            (if s.uart.callbackBound = true then [.txByte (s.params.word (val.setWidth 16))] else []))

/-! ### System registers -/

/-- 45_system_registers.md R156, R157 (D3, D13), R158, R159 (auxiliary, D4): reading INTRST or INTSET acknowledges
nothing; a 1 written to INTRST clears its bit, a 1 written to INTSET sets it. With INTSET unmapped (the parameter of 93
U9, log 18) both its accesses are illegal ones (R155). -/
def Obligations.InterruptStatusAccess : Prop :=
  ∀ (val : Byte) (s : State),
    exec .peekIntrst s = .next { s with result := some s.intStatus } ∧
    (∃ t, exec (.pokeIntrst val) s = .next t ∧
      (∀ k, k < 8 → t.intStatus.getLsbD k = (s.intStatus.getLsbD k && !val.getLsbD k)) ∧
      t = { s with intStatus := t.intStatus, nextEvent := s.cycle }) ∧
    (s.params.intsetMapped = true →
      exec .peekIntset s = .next { s with result := some s.intStatus } ∧
      ∃ t, exec (.pokeIntset val) s = .next t ∧
        (∀ k, k < 8 → t.intStatus.getLsbD k = (s.intStatus.getLsbD k || val.getLsbD k)) ∧
        t = { s with intStatus := t.intStatus }) ∧
    (s.params.intsetMapped = false →
      exec .peekIntset s = .next { s with result := some 0xFF } ∧ exec (.pokeIntset val) s = .next s)

/-- 45_system_registers.md R160 (D31, D32; bits GK, log 16), 10_state.md R32: SYSCTL1 with bit 1 = 1 only emits the
strobe; with bit 1 = 0 it resets the block, emits the two events, sets `halt` and then emits the strobe. What the
reset keeps beside `cycle` is the model's, as in ResetCommand (logs 21, 1, 2, 3, 9). -/
def Obligations.PowerControlPoke : Prop :=
  ∀ (val : Byte) (s : State),
    (val.getLsbD 1 = true →
      exec (.pokeSysctl1 val) s =
        .next { s with events := s.events ++ [.cartAddrStrobe (val.getLsbD 0)] }) ∧
    (val.getLsbD 1 = false →
      exec (.pokeSysctl1 val) s =
        .next { State.reset with
          params := s.params, uart := { State.reset.uart with rxq := List.replicate s.params.rxqDepth 0 }
          cycle := s.cycle, halt := true, surface := s.surface, mem := s.mem, result := s.result,
          pending := s.pending
          events := s.events ++ [.systemReset, .diag .powerDown, .cartAddrStrobe (val.getLsbD 0)] })

/-- 45_system_registers.md R161, R162 (D31; bits GK, log 16): IODIR is stored; IODAT is stored whole and its two
side-channel events are emitted, the second only while pin 4 is an output. -/
def Obligations.IoPortPokes : Prop :=
  ∀ (val : Byte) (s : State),
    exec (.pokeIodir val) s = .next { s with iodir := val } ∧
    exec (.pokeIodat val) s =
      .next { s with
        iodat := val
        events := s.events ++ [.cartAddrData (val.getLsbD 1)] ++
          (if s.iodir.getLsbD 4 = true then [.cartBank1WriteEnable (val.getLsbD 4)] else []) }

/-- 45_system_registers.md R163 (D31; pins GK, log 16): the pin view, bit by bit; the REST pin as an output
reads 0 exactly when software drives 1 and `rest` is latched. -/
def Obligations.IoPortPeek : Prop :=
  ∀ s : State, ∃ b : Byte, exec .peekIodat s = .next { s with result := some b } ∧
    b.extractLsb' 5 3 = 0 ∧
    (∀ k, k = 0 ∨ k = 1 ∨ k = 2 ∨ k = 4 →
      b.getLsbD k = if s.iodir.getLsbD k = true then s.iodat.getLsbD k else s.params.ioIn.getLsbD k) ∧
    (s.iodir.getLsbD 3 = true → (b.getLsbD 3 = false ↔ s.iodat.getLsbD 3 = true ∧ s.display.rest = true)) ∧
    (s.iodir.getLsbD 3 = false → b.getLsbD 3 = s.params.ioIn.getLsbD 3)

/-- 45_system_registers.md R164, R165 (all GK, D4; log 16): the auxiliary registers: constants to read, and writes that
are discarded. -/
def Obligations.AuxiliaryRegisters : Prop :=
  ∀ (val : Byte) (s : State),
    exec .peekMagrdy0 s = .next { s with result := some 0x00 } ∧
    exec .peekMagrdy1 s = .next { s with result := some 0x00 } ∧
    exec .peekAudin s = .next { s with result := some 0x00 } ∧
    exec .peekMikeyhrev s = .next { s with result := some s.params.hwrev } ∧
    exec (.pokeMikeysrev val) s = .next s ∧ exec (.pokeSdoneack val) s = .next s ∧
    exec (.pokeCpusleep val) s = .next s ∧ exec (.pokePbkup val) s = .next s ∧
    exec (.pokeMtest0 val) s = .next s ∧ exec (.pokeMtest1 val) s = .next s ∧
    exec (.pokeMtest2 val) s = .next s

/-- 45_system_registers.md R155: every illegal PEEK returns 0xFF and changes nothing else, every illegal POKE changes
nothing; one clause for each of the 32 illegal-access commands. -/
def Obligations.IllegalAccessCommands : Prop :=
  ∀ (off val : Byte) (s : State),
    (∀ i ∈ ([.peekIllegal45, .peekIllegal46 off, .peekIllegal48 off, .peekIllegal51, .peekIllegal52 off,
        .peekIllegal54 off, .peekIllegal58 off, .peekIllegal60 off, .peekIllegal82 off, .peekIllegal87,
        .peekIllegal89, .peekIllegal8A, .peekIllegal8E off, .peekIllegal90 off, .peekIllegalC0 off] : List Instr),
      exec i s = .next { s with result := some 0xFF }) ∧
    (∀ i ∈ ([.pokeIllegal45 val, .pokeIllegal46 off val, .pokeIllegal48 off val, .pokeIllegal51 val,
        .pokeIllegal52 off val, .pokeIllegal54 off val, .pokeIllegal58 off val, .pokeIllegal60 off val,
        .pokeIllegal82 off val, .pokeIllegal84 off val, .pokeIllegal86 val, .pokeIllegal88 val,
        .pokeIllegal8E off val, .pokeIllegal96 off val, .pokeIllegal98 off val, .pokeIllegal9F val,
        .pokeIllegalC0 off val] : List Instr),
      exec i s = .next s)

/-- 45_system_registers.md R155, on the words: at every illegal (direction, offset) pair of the rule's list a PEEK word
returns 0xFF and a POKE word does nothing, whatever the data byte and the state. -/
def Obligations.IllegalOffsets : Prop :=
  ∀ (off d : Byte) (s : State),
    ((0x45#8 ≤ off ∧ off ≤ 0x4F#8) ∨ (0x51#8 ≤ off ∧ off ≤ 0x7F#8) ∨ off = 0x82#8 ∨ off = 0x83#8 ∨
        off = 0x8E#8 ∨ off = 0x8F#8 ∨ (0x96#8 ≤ off ∧ off ≤ 0x9B#8) ∨ off = 0x9F#8 ∨ 0xC0#8 ≤ off →
      (∃ i, decode (mkWord 0x0 off d) = .ok i ∧ exec i s = .next { s with result := some 0xFF }) ∧
      ∃ i, decode (mkWord 0x1 off d) = .ok i ∧ exec i s = .next s) ∧
    (off = 0x87#8 ∨ off = 0x89#8 ∨ off = 0x8A#8 ∨ (0x90#8 ≤ off ∧ off ≤ 0x95#8) ∨ (0x9C#8 ≤ off ∧ off ≤ 0x9E#8) →
      ∃ i, decode (mkWord 0x0 off d) = .ok i ∧ exec i s = .next { s with result := some 0xFF }) ∧
    (off = 0x84#8 ∨ off = 0x85#8 ∨ off = 0x86#8 ∨ off = 0x88#8 →
      ∃ i, decode (mkWord 0x1 off d) = .ok i ∧ exec i s = .next s)

/-! ### The audio engine -/

/-- 42_audio.md R100, R101 (D17, GK: log 12): an LFSR step keeps the switches, whatever function `LfsrNext` is; the default
one shifts the 12-bit register left and brings in the inverted parity of the tapped bits, and with all switches off
the register is full of ones after twelve steps, from any start. -/
def Obligations.LfsrStep : Prop :=
  ∀ (p : Params) (w : BitVec 21),
    (∀ k, 12 ≤ k → (lfsrNext p w).getLsbD k = w.getLsbD k) ∧
    (p.lfsrTable = Params.default.lfsrTable →
      (∀ k, 1 ≤ k → k ≤ 11 → (lfsrNext p w).getLsbD k = w.getLsbD (k - 1)) ∧
      (lfsrNext p w).getLsbD 0 =
        !((w.getLsbD 12 && w.getLsbD 7) ^^ (w.getLsbD 13 && w.getLsbD 0) ^^ (w.getLsbD 14 && w.getLsbD 1) ^^
          (w.getLsbD 15 && w.getLsbD 2) ^^ (w.getLsbD 16 && w.getLsbD 3) ^^ (w.getLsbD 17 && w.getLsbD 4) ^^
          (w.getLsbD 18 && w.getLsbD 5) ^^ (w.getLsbD 19 && w.getLsbD 10) ^^ (w.getLsbD 20 && w.getLsbD 11)) ∧
      (w.extractLsb' 12 9 = 0 →
        ((List.range 12).foldl (fun v _ => lfsrNext p v) w).extractLsb' 0 12 = 0xFFF#12))

/-- 42_audio.md R103 (polarity D18, GK: log 12): the output rule: clamped accumulation in integrate mode, `+volume` or
the 8-bit negation of `volume` otherwise; nothing else of the channel changes. -/
def Obligations.ChannelOutput : Prop :=
  ∀ a : AudioChannel,
    a.updateOutput = { a with output := a.updateOutput.output } ∧
    (a.integrate = true →
      a.updateOutput.output.toInt =
        max (-128) (min 127
          (if a.waveshaper.getLsbD 0 = true then a.output.toInt + a.volume.toInt
          else a.output.toInt - a.volume.toInt))) ∧
    (a.integrate = false → a.waveshaper.getLsbD 0 = true → a.updateOutput.output = a.volume) ∧
    (a.integrate = false → a.waveshaper.getLsbD 0 = false →
      a.updateOutput.output.toInt = if a.volume.toInt = -128 then -128 else -a.volume.toInt)

/-- 42_audio.md R102, R104 (D39): the underflow action of a channel: the LFSR steps only if `backup` or `linking` is
nonzero, the output is updated and the stereo mix follows in any case; no counter and no interrupt changes. -/
def Obligations.ChannelUnderflow : Prop :=
  ∀ (c : Fin 4) (s : State), ∃ t, t = audioUnderflow c s ∧
    (t.channel c).waveshaper =
      (if (s.channel c).ctr.backup = 0 ∧ (s.channel c).ctr.linking = 0 then (s.channel c).waveshaper
      else lfsrNext s.params (s.channel c).waveshaper) ∧
    t.channel c = ({ s.channel c with waveshaper := (t.channel c).waveshaper }).updateOutput ∧
    (∀ m, m ≠ c → t.channel m = s.channel m) ∧ MixedFrom s t ∧
    t = { s with
      audio := t.audio
      mixer := { s.mixer with lastLeft := t.mixer.lastLeft, lastRight := t.mixer.lastRight }
      events := t.events }

/-- 42_audio.md R104 (D19), 10_state.md R24: the two sums, term by term with the source's divisors, and their range
-512 to 508. -/
def Obligations.MixSums : Prop :=
  ∀ s : State,
    s.leftSum =
      ((List.finRange 4).map fun c : Fin 4 =>
        if s.mixer.stereoEnable.getLsbD (4 + c.val) = true then
          if s.mixer.pan.getLsbD (4 + c.val) = true then
            ((s.channel c).output.toInt * ((s.attenuation c &&& 0xF0#8).toNat : Int)).tdiv 256
          else (s.channel c).output.toInt
        else 0).sum ∧
    s.rightSum =
      ((List.finRange 4).map fun c : Fin 4 =>
        if s.mixer.stereoEnable.getLsbD c.val = true then
          if s.mixer.pan.getLsbD c.val = true then
            ((s.channel c).output.toInt * ((s.attenuation c &&& 0x0F#8).toNat : Int)).tdiv 16
          else (s.channel c).output.toInt
        else 0).sum ∧
    -512 ≤ s.leftSum ∧ s.leftSum ≤ 508 ∧ -512 ≤ s.rightSum ∧ s.rightSum ≤ 508

/-! ### The display engine -/

/-- 43_display.md R131 (D16, D22, D23), 20_memory.md R39 (D24): the line strobe: a no-op unless a surface is bound and DMA is
on; else the interrupt bit under its mask, REST from the line count before the decrement, the arming of the burst
at the masked address (+3 when flipped) with `LINES` lines, the saturating decrement, and then, the arming strobe
being itself the first line of its burst: with no line left nothing; past the last row the diagnostic, the address
left where it is; else the line copied from that address (`copyLine`, stated by CopiedScanline) or skipped, and the
address and the row moved on. -/
def Obligations.LineStrobe : Prop :=
  ∀ (s t : State), t = renderLine s →
    (s.display.surfaceBound = false ∨ s.display.dmaEnable = false → t = s) ∧
    (s.display.surfaceBound = true → s.display.dmaEnable = true →
      ∃ (adr : BitVec 16) (left : Nat),
        ((s.display.lineCount.toNat : Int) = ((s.timer 2).ctr.backup.toNat : Int) - (s.params.burstOffset : Int) →
          left = Config.lines ∧
          adr = if s.display.flip = true then (s.display.dispAddr &&& s.params.dispadrMask) + 3#16
            else s.display.dispAddr &&& s.params.dispadrMask) ∧
        ((s.display.lineCount.toNat : Int) ≠ ((s.timer 2).ctr.backup.toNat : Int) - (s.params.burstOffset : Int) →
          left = s.display.dmaLines ∧ adr = s.display.dmaAddr) ∧
        t.intStatus = (if s.intMask.getLsbD 0 = true then s.intStatus ||| 1#8 else s.intStatus) ∧
        (t.display.rest = true ↔ ∃ k ∈ s.params.restOffsets,
          (s.display.lineCount.toNat : Int) = ((s.timer 2).ctr.backup.toNat : Int) - (k : Int)) ∧
        t.display.lineCount.toNat = s.display.lineCount.toNat - 1 ∧
        t.display.dmaLines = left - 1 ∧
        (left = 0 → t.display.dmaAddr = adr ∧ t.display.outLine = s.display.outLine ∧ t.surface = s.surface ∧
          t.events = s.events) ∧
        (0 < left → Config.lines ≤ s.display.outLine →
          t.display.dmaAddr = adr ∧ t.display.outLine = s.display.outLine ∧ t.surface = s.surface ∧
          t.events = s.events ++ [.diag .lineOverflow]) ∧
        (0 < left → s.display.outLine < Config.lines →
          t.display.outLine = s.display.outLine + 1 ∧ t.events = s.events ∧
          t.display.dmaAddr =
            (if s.display.flip = true then adr - BitVec.ofNat 16 s.params.lineBytes
            else adr + BitVec.ofNat 16 s.params.lineBytes) ∧
          t.surface =
            if s.display.skipFrame = true then s.surface
            else (copyLine { s with display := { s.display with dmaAddr := adr } }).surface) ∧
        t = { s with
          intStatus := t.intStatus, surface := t.surface, events := t.events
          display := { s.display with
            rest := t.display.rest, dmaAddr := t.display.dmaAddr, dmaLines := t.display.dmaLines
            lineCount := t.display.lineCount, outLine := t.display.outLine } })

/-- 43_display.md R132 (D21, D25; the nibble order GK: log 13), 20_memory.md R38, R39: one copied scanline: `LINE_PIXELS`
pixels from `LINE_BYTES` bytes through palette and colour table, the bytes walked backwards and the nibbles swapped
when flipped; every other row keeps what it had. -/
def Obligations.CopiedScanline : Prop :=
  ∀ (s t : State), t = copyLine s →
    (∀ col, col < s.params.linePixels →
      ∃ (b : Byte) (p : BitVec 4),
        b = Memory.read s.mem
          (if s.display.flip = true then s.display.dmaAddr - BitVec.ofNat 16 (col / 2)
          else s.display.dmaAddr + BitVec.ofNat 16 (col / 2)) ∧
        p = (if (col % 2 = 0 ∧ s.display.flip = false) ∨ (col % 2 = 1 ∧ s.display.flip = true) then b.extractLsb' 4 4
          else b.extractLsb' 0 4) ∧
        t.pixelAt s.display.outLine col =
          some (s.params.colourMap ((s.palEntry p.toFin).r ++ (s.palEntry p.toFin).g ++ (s.palEntry p.toFin).b))) ∧
    (∀ row col, col < s.params.linePixels → row ≠ s.display.outLine → t.pixelAt row col = s.pixelAt row col) ∧
    t.display.dmaAddr =
      (if s.display.flip = true then s.display.dmaAddr - BitVec.ofNat 16 s.params.lineBytes
      else s.display.dmaAddr + BitVec.ofNat 16 s.params.lineBytes) ∧
    t = { s with display := { s.display with dmaAddr := t.display.dmaAddr }, surface := t.surface }

/-- 43_display.md R133 (D16): the frame strobe, gated by nothing: the burst is halted, the line countdown reloaded from
Timer 2's backup, the interrupt raised under its mask and the surface unbound; `out_line` and `dma_addr` stay. -/
def Obligations.FrameStrobe : Prop :=
  ∀ s : State,
    endOfFrame s =
      { s with
        display := { s.display with
          dmaLines := 0, lineCount := (s.timer 2).ctr.backup, surfaceBound := false }
        intStatus := if s.intMask.getLsbD 2 = true then s.intStatus ||| 4#8 else s.intStatus }

/-- The frame law, 43_display.md R134 with R131, R132 and 20_memory.md R39 (D21, D22, D24, D25; the nibble order GK: log 13):
from the strobe that arms the burst (`line_count` = B - `BURST_OFFSET` and not 0, row 0, surface bound, DMA on, no
skip), 102 strobes write every pixel of the 102 rows from the aligned address on, in either direction; any further
strobes write nothing, and no strobe overflows. -/
def Obligations.BurstDrawsTheFrame : Prop :=
  ∀ (s : State) (k : Nat),
    s.display.surfaceBound = true → s.display.dmaEnable = true → s.display.skipFrame = false →
    s.display.outLine = 0 → 0 < s.display.lineCount.toNat →
    s.display.lineCount.toNat + s.params.burstOffset = (s.timer 2).ctr.backup.toNat → 102 ≤ k →
      ∃ t, t = repeated renderLine k s ∧ t.display.outLine = 102 ∧ t.display.dmaLines = 0 ∧
        t.events = s.events ∧ t.surface = (repeated renderLine 102 s).surface ∧
        ∀ row col, row < 102 → col < s.params.linePixels →
          ∃ (adr : BitVec 16) (b : Byte) (p : BitVec 4),
            adr = (if s.display.flip = true then
                (s.display.dispAddr &&& s.params.dispadrMask) + 3#16 -
                  BitVec.ofNat 16 (s.params.lineBytes * row + col / 2)
              else (s.display.dispAddr &&& s.params.dispadrMask) +
                  BitVec.ofNat 16 (s.params.lineBytes * row + col / 2)) ∧
            b = Memory.read s.mem adr ∧
            p = (if (col % 2 = 0 ∧ s.display.flip = false) ∨ (col % 2 = 1 ∧ s.display.flip = true) then
                b.extractLsb' 4 4
              else b.extractLsb' 0 4) ∧
            t.pixelAt row col =
              some (s.params.colourMap
                ((s.palEntry p.toFin).r ++ (s.palEntry p.toFin).g ++ (s.palEntry p.toFin).b))

/-! ### The Update pass -/

/-- 40_update_dispatcher.md R67 and the "written by" columns of 10_state.md R19 to R31: an UPDATE completes from every
state. The underflows reach their engines (41_timers.md R84, R85, R86, 42_audio.md R102): for the counters whose
`borrow_out` stands after the pass, and for no other, the engine's routine has run exactly once, in R67's order and at
the pass's cycle (`enginesRun`: line strobe, frame strobe, UART tick, four channel actions), and beside those calls a
pass writes the counter records, `int_status`, `cycle` and `next_event` alone. So it leaves the parameters, system
memory, the mask, the I/O latches, `halt`, the host's side, every programmed field of the counters and channels, the
feedback switches (42_audio.md R100), the mixer's registers and epoch, the palette and the display and serial settings. -/
def Obligations.UpdateFrame : Prop :=
  ∀ s : State, ∃ t e, exec .update s = .next t ∧
    e = enginesRun (fun ref => (t.counter ref).borrowOut) { s with cycle := t.cycle } ∧
    (∀ c, t.channel c = { e.channel c with ctr := (t.channel c).ctr }) ∧
    t = { e with
      timers := t.timers, audio := t.audio, intStatus := t.intStatus, cycle := t.cycle, nextEvent := t.nextEvent } ∧
    (∀ adr, Memory.read t.mem adr = Memory.read s.mem adr) ∧
    t.params = s.params ∧ t.intMask = s.intMask ∧ t.iodir = s.iodir ∧ t.iodat = s.iodat ∧ t.halt = s.halt ∧
    t.pending = s.pending ∧ t.result = s.result ∧
    (∀ ref, (t.counter ref).backup = (s.counter ref).backup ∧
      (t.counter ref).enableCount = (s.counter ref).enableCount ∧
      (t.counter ref).enableReload = (s.counter ref).enableReload ∧
      (t.counter ref).linking = (s.counter ref).linking) ∧
    (∀ c, (t.channel c).volume = (s.channel c).volume ∧ (t.channel c).integrate = (s.channel c).integrate ∧
      (t.channel c).waveshaper.extractLsb' 12 9 = (s.channel c).waveshaper.extractLsb' 12 9) ∧
    t.mixer = { s.mixer with lastLeft := t.mixer.lastLeft, lastRight := t.mixer.lastRight } ∧
    t.display = { s.display with
      dmaAddr := t.display.dmaAddr, dmaLines := t.display.dmaLines, lineCount := t.display.lineCount
      outLine := t.display.outLine, rest := t.display.rest, surfaceBound := t.display.surfaceBound } ∧
    t.uart.parityEnable = s.uart.parityEnable ∧ t.uart.parityEven = s.uart.parityEven ∧
    t.uart.sendBreak = s.uart.sendBreak ∧ t.uart.txIrqEnable = s.uart.txIrqEnable ∧
    t.uart.rxIrqEnable = s.uart.rxIrqEnable ∧ t.uart.callbackBound = s.uart.callbackBound ∧
    t.uart.rxFraming = s.uart.rxFraming

/-- The schedule of a clocked counter, 40_update_dispatcher.md R70, R71, R72, R75, R76 and 70_reset_and_hazards.md R181 (D6,
D8, D9, D11, D12), for any of the twelve counters that counts on the clock and any count, negative ones included. No
tick is lost and the phase is kept, however late the pass is. Before its due cycle, (count + 1) << s after the last
sync and a single tick after it when the count is negative, nothing underflows and the due cycle stays where it was.
From the due cycle on it underflows once and only once: with reload (Timer 0 always) `backup` + 1 is added to the
count; less than a period late, the next due cycle lies exactly one period after the last; later still, the count
stays negative and the deferred underflow is due at the next tick boundary, which lies ahead; without reload the count
stops at 0. s is 4 + linking, 7 + linking for Timer 4. Cycles are measured from `cycle`, so a rebase does not disturb
the law. -/
def Obligations.ClockedCounterSchedule : Prop :=
  ∀ (s t : State) (ref : CounterRef),
    exec .update s = .next t →
    s.predictCounting ref = true → s.predictClocked ref = true →
      ∃ (x y : Counter) (sh elapsed ticks due period : Nat), x = s.counter ref ∧ y = t.counter ref ∧
        sh = shiftBase ref + x.linking.toNat ∧
        elapsed = (s.cycle - x.lastClock).toNat ∧ ticks = elapsed / 2 ^ sh ∧
        due = (x.current.toNat + 1) * 2 ^ sh ∧ period = (x.backup.toNat + 1) * 2 ^ sh ∧
        (t.cycle - y.lastClock).toNat = elapsed % 2 ^ sh ∧
        y.borrowIn = decide (0 < ticks) ∧
        (elapsed < due →
          y.borrowOut = false ∧ y.done = x.done ∧ y.current = x.current - (ticks : Int) ∧
          y.lastClock + BitVec.ofNat 32 ((y.current.toNat + 1) * 2 ^ sh) - t.cycle =
            x.lastClock + BitVec.ofNat 32 due - s.cycle) ∧
        (due ≤ elapsed →
          y.borrowOut = true ∧ y.done = true ∧
          (x.enableReload = true ∨ ref = .timer 0 →
            y.current = x.current - (ticks : Int) + (x.backup.toNat : Int) + 1 ∧
            (0 ≤ x.current → elapsed < due + period →
              0 ≤ y.current ∧ y.current ≤ (x.backup.toNat : Int) ∧
              y.lastClock + BitVec.ofNat 32 ((y.current.toNat + 1) * 2 ^ sh) - t.cycle =
                x.lastClock + BitVec.ofNat 32 (due + period) - s.cycle) ∧
            (0 ≤ x.current → due + period ≤ elapsed → y.current < 0) ∧
            (y.current < 0 → y.nextUnderflow (shiftBase ref) = y.lastClock + BitVec.ofNat 32 (2 ^ sh))) ∧
          (x.enableReload = false → ref ≠ .timer 0 → y.current = 0))

/-- The borrow chain, 40_update_dispatcher.md R71, R73 and 41_timers.md R82 (D7, D9, D40): a linked counter that counts
ticks once in a pass if and only if its source underflowed in that same pass, and underflows on the tick that takes
its count below zero. What software wrote into the source's `borrow_out` before the pass plays no part. -/
def Obligations.LinkedCounterFollowsItsSource : Prop :=
  ∀ (s t : State) (ref src : CounterRef),
    exec .update s = .next t → linkSource ref = some src →
    (s.counter ref).counting = true → (s.counter ref).linking = 7 →
      ∃ (x y : Counter), x = s.counter ref ∧ y = t.counter ref ∧
        ((t.counter src).borrowOut = false →
          y.current = x.current ∧ y.done = x.done ∧ y.borrowIn = false ∧ y.borrowOut = false) ∧
        ((t.counter src).borrowOut = true → y.borrowIn = true ∧
          (0 < x.current → y.current = x.current - 1 ∧ y.done = x.done ∧ y.borrowOut = false) ∧
          (x.current ≤ 0 → y.borrowOut = true ∧ y.done = true ∧
            y.current = if x.enableReload = true then x.current + (x.backup.toNat : Int) else 0)) ∧
        y.lastClock - t.cycle = x.lastClock - s.cycle ∧
        (∀ n, ref = .timer n → (t.timer n).lastLinkCarry = (t.counter src).borrowOut)

/-- 40_update_dispatcher.md R70, R71 and 41_timers.md R87 (D6, D7, D9): a counter whose gate is closed, and Timer 1 with
selector 7, keep their count and their done flag in a pass and lose both borrow flags. -/
def Obligations.StoppedCounterStands : Prop :=
  ∀ (s t : State) (ref : CounterRef),
    exec .update s = .next t →
    s.predictCounting ref = false ∨ (ref = .timer 1 ∧ (s.counter ref).linking = 7) →
      ∃ y : Counter, y = t.counter ref ∧
        y = { s.counter ref with borrowIn := false, borrowOut := false, lastClock := y.lastClock } ∧
        y.lastClock - t.cycle = (s.counter ref).lastClock - s.cycle ∧
        (ref = .timer 1 → s.predictCounting ref = true → (t.timer 1).lastLinkCarry = false)

/-- 60_exceptions.md R168 with 41_timers.md R83, 43_display.md R131, R133 and 44_uart.md R147 (bit numbers D16, GK): after a
pass each status bit is set exactly if it was set before or its source fired in the pass under its enable: the
timer's underflow and mask bit for 1, 3, 5, 6, 7; the line strobe with surface bound and DMA on for 0; the frame
strobe for 2; the serial level, whatever the mask holds, for 4. -/
def Obligations.InterruptSources : Prop :=
  ∀ (s t : State), exec .update s = .next t →
    (∀ n : Fin 8, n = 1 ∨ n = 3 ∨ n = 5 ∨ n = 6 ∨ n = 7 →
      t.intStatus.getLsbD n = (s.intStatus.getLsbD n || (s.intMask.getLsbD n && (t.timer n).ctr.borrowOut))) ∧
    t.intStatus.getLsbD 0 =
      (s.intStatus.getLsbD 0 || (s.intMask.getLsbD 0 && (t.timer 0).ctr.borrowOut &&
        s.display.surfaceBound && s.display.dmaEnable)) ∧
    t.intStatus.getLsbD 2 = (s.intStatus.getLsbD 2 || (s.intMask.getLsbD 2 && (t.timer 2).ctr.borrowOut)) ∧
    t.intStatus.getLsbD 4 =
      (s.intStatus.getLsbD 4 || (t.uart.txIrqEnable && !t.uart.txActive) || (t.uart.rxIrqEnable && t.uart.rxReady))

/-- 40_update_dispatcher.md R76 (D12): after a pass `next_event` is the earliest due cycle of the counters that count on
the clock, and lies after `cycle`; with no such counter it is 0xFFFFFFFF. The two rebase parameters (D14, GK: log 17)
must leave room below the top of the 32-bit range (`RebaseFits`), as their defaults do. -/
def Obligations.NextEventIsTheEarliestDue : Prop :=
  ∀ (s t : State), exec .update s = .next t → CountsInRange s → RebaseFits s.params →
    (∀ ref, t.predictCounting ref = true → t.predictClocked ref = true →
      t.nextEvent ≤ (t.counter ref).nextUnderflow (shiftBase ref)) ∧
    ((t.cycle < t.nextEvent ∧ ∃ ref, t.predictCounting ref = true ∧ t.predictClocked ref = true ∧
        t.nextEvent = (t.counter ref).nextUnderflow (shiftBase ref)) ∨
      (t.nextEvent = 0xFFFFFFFF#32 ∧ ∀ ref, t.predictCounting ref = false ∨ t.predictClocked ref = false))

/-- 40_update_dispatcher.md R78: an extra pass at a cycle before the `next_event` of the pass before it underflows no
counter: it raises no interrupt, draws nothing, ticks no UART countdown, steps no LFSR and emits nothing; it clears
the `borrow_out` flags and, unless it rebases, finds the same `next_event`. The premise on the rebase parameters is
that of NextEventIsTheEarliestDue. -/
def Obligations.EarlyPassIsQuiet : Prop :=
  ∀ (s t u : State) (c : Stamp),
    exec .update s = .next t → CountsInRange s → RebaseFits s.params → t.cycle ≤ c → c < t.nextEvent →
    exec .update { t with cycle := c } = .next u →
      (∀ ref, (u.counter ref).borrowOut = false ∧ (u.counter ref).done = (t.counter ref).done) ∧
      (∀ m, u.channel m = { t.channel m with ctr := (u.channel m).ctr }) ∧
      (c ≤ s.params.rebaseThreshold → u.nextEvent = t.nextEvent) ∧
      u = { t with
        cycle := u.cycle, timers := u.timers, audio := u.audio, nextEvent := u.nextEvent }

/-- 40_update_dispatcher.md R69 (D14), for every threshold and constant: a pass above the threshold moves `cycle` and every
stamp down by the same constant before any timer math, every age and every distance to an underflow being the same,
so that it gives exactly what a pass on the shifted state gives (where that state is itself not above the threshold, as
it never is with the defaults, GK: log 17); a pass not above the threshold leaves `cycle`. -/
def Obligations.RebasePreservesDeltas : Prop :=
  ∀ s : State,
    (s.cycle ≤ s.params.rebaseThreshold → ∀ t, exec .update s = .next t → t.cycle = s.cycle) ∧
    (s.params.rebaseThreshold < s.cycle →
      ∃ r, r.cycle = s.cycle - s.params.rebaseDelta ∧
        (∀ ref, r.counter ref = { s.counter ref with
          lastClock := (s.counter ref).lastClock - s.params.rebaseDelta }) ∧
        (∀ ref, r.cycle - (r.counter ref).lastClock = s.cycle - (s.counter ref).lastClock ∧
          (r.counter ref).nextUnderflow (shiftBase ref) - r.cycle =
            (s.counter ref).nextUnderflow (shiftBase ref) - s.cycle) ∧
        r = { s with cycle := r.cycle, timers := r.timers, audio := r.audio } ∧
        (r.cycle ≤ s.params.rebaseThreshold → exec .update s = exec .update r) ∧
        ∀ t, exec .update s = .next t → t.cycle = r.cycle)

/-! ### The whole machine -/

/-- 60_exceptions.md R166: "Every command of every encoding completes and returns normally"; there is no exception and
no cause code to record. -/
def Obligations.EveryCommandCompletes : Prop :=
  (∀ _ : Fault, False) ∧
  (∀ (i : Instr) (s : State), ∃ t, exec i s = .next t) ∧
  (∀ w : CmdWord, (CmdWord.cls w).toNat ≤ 9 → ∃ i, decode w = .ok i ∧ ∀ s, ∃ t, exec i s = .next t)

/-- 00_scope.md R13, 20_memory.md R36: "the block never writes system memory"; only a pass writes the surface; no command
takes an input of the host (log 1). That a BINDSURFACE keeps the pixels written so far is the model's choice (log 9):
00_scope.md R8 binds "a fresh surface". -/
def Obligations.NoCommandWritesMemory : Prop :=
  ∀ (i : Instr) (s t : State), exec i s = .next t →
    (∀ adr, Memory.read t.mem adr = Memory.read s.mem adr) ∧ t.pending = s.pending ∧
    (t.surface = s.surface ∨ i = .update ∨ (∃ n, i = .peekTimCnt n) ∨ ∃ c, i = .peekAudCount c)

/-- 60_exceptions.md R168, R169 (D16; INTSET D4, log 18): the request line is asserted exactly while some status bit is
set. A status bit falls only by POKE INTRST with that bit, RESET or a power-down, and rises only in a pass or by POKE
INTSET with that bit, and that only where INTSET is mapped; the line falls only by a POKE INTRST that covers every
status bit set, RESET or a power-down, and rises only in a pass or by such a POKE INTSET of a nonzero byte. -/
def Obligations.InterruptStatusWriters : Prop :=
  ∀ (i : Instr) (s t : State), exec i s = .next t →
    (irqLine s = true ↔ ∃ k, k < 8 ∧ s.intStatus.getLsbD k = true) ∧
    (irqLine s = true → irqLine t = false →
      (∃ val, i = .pokeIntrst val ∧ ∀ k, s.intStatus.getLsbD k = true → val.getLsbD k = true) ∨ i = .reset ∨
        ∃ val, i = .pokeSysctl1 val ∧ val.getLsbD 1 = false) ∧
    (irqLine s = false → irqLine t = true →
      (∃ val, i = .pokeIntset val ∧ val ≠ 0 ∧ s.params.intsetMapped = true) ∨ i = .update ∨
        (∃ n, i = .peekTimCnt n) ∨ ∃ c, i = .peekAudCount c) ∧
    ∀ k : Nat,
      (s.intStatus.getLsbD k = true → t.intStatus.getLsbD k = false →
        (∃ val, i = .pokeIntrst val ∧ val.getLsbD k = true) ∨ i = .reset ∨
          ∃ val, i = .pokeSysctl1 val ∧ val.getLsbD 1 = false) ∧
      (s.intStatus.getLsbD k = false → t.intStatus.getLsbD k = true →
        (∃ val, i = .pokeIntset val ∧ val.getLsbD k = true ∧ s.params.intsetMapped = true) ∨ i = .update ∨
          (∃ n, i = .peekTimCnt n) ∨ ∃ c, i = .peekAudCount c)

/-- 10_state.md R32 (D32), 00_scope.md R14: nothing clears `halt` and only a power-down sets it; events are only appended
to the trace (that the trace is state: log 3). -/
def Obligations.HaltAndTrace : Prop :=
  ∀ (i : Instr) (s t : State), exec i s = .next t →
    (s.halt = true → t.halt = true) ∧
    (s.halt = false → t.halt = true → ∃ val, i = .pokeSysctl1 val ∧ val.getLsbD 1 = false) ∧
    ∃ es, t.events = s.events ++ es

/-- 10_state.md R30, 70_reset_and_hazards.md R184 (D33, D14): `cycle` moves only by ADVANCE, and by the rebase constant in a
pass above the threshold. -/
def Obligations.CycleMovers : Prop :=
  ∀ (i : Instr) (s t : State), exec i s = .next t →
    t.cycle = s.cycle ∨ (∃ n : BitVec 16, i = .advance n ∧ t.cycle = s.cycle + n.setWidth 32) ∨
      ((i = .update ∨ (∃ n, i = .peekTimCnt n) ∨ ∃ c, i = .peekAudCount c) ∧
        s.params.rebaseThreshold < s.cycle ∧ t.cycle = s.cycle - s.params.rebaseDelta)

/-- The invariant of the state (44_uart.md R144, 10_state.md R24, R25, R27, 40_update_dispatcher.md R74 in its upper bound,
42_audio.md R104; the canonical forms are the model's) is kept by every step, from every state that meets it; and no
step writes the parameters, which are configuration (93 U21; that the state carries them is the model's, log 21). -/
def Obligations.StepKeepsInvariant : Prop :=
  ∀ s t : State, step s = .next t → t.params = s.params ∧ (s.Inv → t.Inv)

/-- The state after reset (70_reset_and_hazards.md R179) meets the invariant that every step keeps, and the parameters
it stands at leave the room a rebase needs (40_update_dispatcher.md R69).
Both clauses rest on the defaults of 00_scope.md R10, which the spec marks as general knowledge: the rebase on
REBASE_THRESHOLD and REBASE_DELTA (D14, log 17), the receive queue on RXQ_DEPTH (D26, log 14).
The model's own are that the state carries the parameters, at these defaults after reset (log 21), and the canonical
forms of memory and surface in the invariant (logs 8 and 9), which no rule of the spec names.
What a rebase needs, `RebaseFits`, is derived from R69 and the longest counter period. -/
def Obligations.ResetMeetsInvariant : Prop := State.reset.Inv ∧ RebaseFits State.reset.params
end

