-- ==== Sys2Proof/Laws/State.lean ====
section
/-! SUPPORT. One lemma per field per update of the state, true by rfl and tagged simp, and what an access
returns after a write of the same or another place. -/

namespace Sys2Proof.Machine

variable (s : State)

@[simp] theorem State.setTimer_timers (n : Fin 8) (t : Timer) : (s.setTimer n t).timers = s.timers.set n t := rfl
@[simp] theorem State.setTimer_audio (n : Fin 8) (t : Timer) : (s.setTimer n t).audio = s.audio := rfl
@[simp] theorem State.setTimer_mixer (n : Fin 8) (t : Timer) : (s.setTimer n t).mixer = s.mixer := rfl
@[simp] theorem State.setTimer_display (n : Fin 8) (t : Timer) : (s.setTimer n t).display = s.display := rfl
@[simp] theorem State.setTimer_uart (n : Fin 8) (t : Timer) : (s.setTimer n t).uart = s.uart := rfl
@[simp] theorem State.setTimer_intStatus (n : Fin 8) (t : Timer) : (s.setTimer n t).intStatus = s.intStatus := rfl
@[simp] theorem State.setTimer_intMask (n : Fin 8) (t : Timer) : (s.setTimer n t).intMask = s.intMask := rfl
@[simp] theorem State.setTimer_cycle (n : Fin 8) (t : Timer) : (s.setTimer n t).cycle = s.cycle := rfl
@[simp] theorem State.setTimer_nextEvent (n : Fin 8) (t : Timer) : (s.setTimer n t).nextEvent = s.nextEvent := rfl
@[simp] theorem State.setTimer_params (n : Fin 8) (t : Timer) : (s.setTimer n t).params = s.params := rfl
@[simp] theorem State.setTimer_iodir (n : Fin 8) (t : Timer) : (s.setTimer n t).iodir = s.iodir := rfl
@[simp] theorem State.setTimer_iodat (n : Fin 8) (t : Timer) : (s.setTimer n t).iodat = s.iodat := rfl
@[simp] theorem State.setTimer_halt (n : Fin 8) (t : Timer) : (s.setTimer n t).halt = s.halt := rfl
@[simp] theorem State.setTimer_surface (n : Fin 8) (t : Timer) : (s.setTimer n t).surface = s.surface := rfl
@[simp] theorem State.setTimer_mem (n : Fin 8) (t : Timer) : (s.setTimer n t).mem = s.mem := rfl
@[simp] theorem State.setTimer_events (n : Fin 8) (t : Timer) : (s.setTimer n t).events = s.events := rfl
@[simp] theorem State.setTimer_result (n : Fin 8) (t : Timer) : (s.setTimer n t).result = s.result := rfl
@[simp] theorem State.setTimer_pending (n : Fin 8) (t : Timer) : (s.setTimer n t).pending = s.pending := rfl

@[simp] theorem State.setChannel_timers (c : Fin 4) (a : AudioChannel) : (s.setChannel c a).timers = s.timers := rfl
@[simp] theorem State.setChannel_audio (c : Fin 4) (a : AudioChannel) : (s.setChannel c a).audio = s.audio.set c a := rfl
@[simp] theorem State.setChannel_mixer (c : Fin 4) (a : AudioChannel) : (s.setChannel c a).mixer = s.mixer := rfl
@[simp] theorem State.setChannel_display (c : Fin 4) (a : AudioChannel) : (s.setChannel c a).display = s.display := rfl
@[simp] theorem State.setChannel_uart (c : Fin 4) (a : AudioChannel) : (s.setChannel c a).uart = s.uart := rfl
@[simp] theorem State.setChannel_intStatus (c : Fin 4) (a : AudioChannel) : (s.setChannel c a).intStatus = s.intStatus := rfl
@[simp] theorem State.setChannel_intMask (c : Fin 4) (a : AudioChannel) : (s.setChannel c a).intMask = s.intMask := rfl
@[simp] theorem State.setChannel_cycle (c : Fin 4) (a : AudioChannel) : (s.setChannel c a).cycle = s.cycle := rfl
@[simp] theorem State.setChannel_nextEvent (c : Fin 4) (a : AudioChannel) : (s.setChannel c a).nextEvent = s.nextEvent := rfl
@[simp] theorem State.setChannel_params (c : Fin 4) (a : AudioChannel) : (s.setChannel c a).params = s.params := rfl
@[simp] theorem State.setChannel_iodir (c : Fin 4) (a : AudioChannel) : (s.setChannel c a).iodir = s.iodir := rfl
@[simp] theorem State.setChannel_iodat (c : Fin 4) (a : AudioChannel) : (s.setChannel c a).iodat = s.iodat := rfl
@[simp] theorem State.setChannel_halt (c : Fin 4) (a : AudioChannel) : (s.setChannel c a).halt = s.halt := rfl
@[simp] theorem State.setChannel_surface (c : Fin 4) (a : AudioChannel) : (s.setChannel c a).surface = s.surface := rfl
@[simp] theorem State.setChannel_mem (c : Fin 4) (a : AudioChannel) : (s.setChannel c a).mem = s.mem := rfl
@[simp] theorem State.setChannel_events (c : Fin 4) (a : AudioChannel) : (s.setChannel c a).events = s.events := rfl
@[simp] theorem State.setChannel_result (c : Fin 4) (a : AudioChannel) : (s.setChannel c a).result = s.result := rfl
@[simp] theorem State.setChannel_pending (c : Fin 4) (a : AudioChannel) : (s.setChannel c a).pending = s.pending := rfl

@[simp] theorem State.setPalEntry_timers (i : Fin 16) (p : PalEntry) : (s.setPalEntry i p).timers = s.timers := rfl
@[simp] theorem State.setPalEntry_audio (i : Fin 16) (p : PalEntry) : (s.setPalEntry i p).audio = s.audio := rfl
@[simp] theorem State.setPalEntry_mixer (i : Fin 16) (p : PalEntry) : (s.setPalEntry i p).mixer = s.mixer := rfl
@[simp] theorem State.setPalEntry_display (i : Fin 16) (p : PalEntry) : (s.setPalEntry i p).display = { s.display with pal := s.display.pal.set i p } := rfl
@[simp] theorem State.setPalEntry_uart (i : Fin 16) (p : PalEntry) : (s.setPalEntry i p).uart = s.uart := rfl
@[simp] theorem State.setPalEntry_intStatus (i : Fin 16) (p : PalEntry) : (s.setPalEntry i p).intStatus = s.intStatus := rfl
@[simp] theorem State.setPalEntry_intMask (i : Fin 16) (p : PalEntry) : (s.setPalEntry i p).intMask = s.intMask := rfl
@[simp] theorem State.setPalEntry_cycle (i : Fin 16) (p : PalEntry) : (s.setPalEntry i p).cycle = s.cycle := rfl
@[simp] theorem State.setPalEntry_nextEvent (i : Fin 16) (p : PalEntry) : (s.setPalEntry i p).nextEvent = s.nextEvent := rfl
@[simp] theorem State.setPalEntry_params (i : Fin 16) (p : PalEntry) : (s.setPalEntry i p).params = s.params := rfl
@[simp] theorem State.setPalEntry_iodir (i : Fin 16) (p : PalEntry) : (s.setPalEntry i p).iodir = s.iodir := rfl
@[simp] theorem State.setPalEntry_iodat (i : Fin 16) (p : PalEntry) : (s.setPalEntry i p).iodat = s.iodat := rfl
@[simp] theorem State.setPalEntry_halt (i : Fin 16) (p : PalEntry) : (s.setPalEntry i p).halt = s.halt := rfl
@[simp] theorem State.setPalEntry_surface (i : Fin 16) (p : PalEntry) : (s.setPalEntry i p).surface = s.surface := rfl
@[simp] theorem State.setPalEntry_mem (i : Fin 16) (p : PalEntry) : (s.setPalEntry i p).mem = s.mem := rfl
@[simp] theorem State.setPalEntry_events (i : Fin 16) (p : PalEntry) : (s.setPalEntry i p).events = s.events := rfl
@[simp] theorem State.setPalEntry_result (i : Fin 16) (p : PalEntry) : (s.setPalEntry i p).result = s.result := rfl
@[simp] theorem State.setPalEntry_pending (i : Fin 16) (p : PalEntry) : (s.setPalEntry i p).pending = s.pending := rfl

@[simp] theorem State.setAttenuation_timers (c : Fin 4) (v : Byte) : (s.setAttenuation c v).timers = s.timers := rfl
@[simp] theorem State.setAttenuation_audio (c : Fin 4) (v : Byte) : (s.setAttenuation c v).audio = s.audio := rfl
@[simp] theorem State.setAttenuation_mixer (c : Fin 4) (v : Byte) : (s.setAttenuation c v).mixer = { s.mixer with atten := s.mixer.atten.set c v } := rfl
@[simp] theorem State.setAttenuation_display (c : Fin 4) (v : Byte) : (s.setAttenuation c v).display = s.display := rfl
@[simp] theorem State.setAttenuation_uart (c : Fin 4) (v : Byte) : (s.setAttenuation c v).uart = s.uart := rfl
@[simp] theorem State.setAttenuation_intStatus (c : Fin 4) (v : Byte) : (s.setAttenuation c v).intStatus = s.intStatus := rfl
@[simp] theorem State.setAttenuation_intMask (c : Fin 4) (v : Byte) : (s.setAttenuation c v).intMask = s.intMask := rfl
@[simp] theorem State.setAttenuation_cycle (c : Fin 4) (v : Byte) : (s.setAttenuation c v).cycle = s.cycle := rfl
@[simp] theorem State.setAttenuation_nextEvent (c : Fin 4) (v : Byte) : (s.setAttenuation c v).nextEvent = s.nextEvent := rfl
@[simp] theorem State.setAttenuation_params (c : Fin 4) (v : Byte) : (s.setAttenuation c v).params = s.params := rfl
@[simp] theorem State.setAttenuation_iodir (c : Fin 4) (v : Byte) : (s.setAttenuation c v).iodir = s.iodir := rfl
@[simp] theorem State.setAttenuation_iodat (c : Fin 4) (v : Byte) : (s.setAttenuation c v).iodat = s.iodat := rfl
@[simp] theorem State.setAttenuation_halt (c : Fin 4) (v : Byte) : (s.setAttenuation c v).halt = s.halt := rfl
@[simp] theorem State.setAttenuation_surface (c : Fin 4) (v : Byte) : (s.setAttenuation c v).surface = s.surface := rfl
@[simp] theorem State.setAttenuation_mem (c : Fin 4) (v : Byte) : (s.setAttenuation c v).mem = s.mem := rfl
@[simp] theorem State.setAttenuation_events (c : Fin 4) (v : Byte) : (s.setAttenuation c v).events = s.events := rfl
@[simp] theorem State.setAttenuation_result (c : Fin 4) (v : Byte) : (s.setAttenuation c v).result = s.result := rfl
@[simp] theorem State.setAttenuation_pending (c : Fin 4) (v : Byte) : (s.setAttenuation c v).pending = s.pending := rfl

@[simp] theorem State.setIntMask_timers (n : Fin 8) (b : Bool) : (s.setIntMask n b).timers = s.timers := rfl
@[simp] theorem State.setIntMask_audio (n : Fin 8) (b : Bool) : (s.setIntMask n b).audio = s.audio := rfl
@[simp] theorem State.setIntMask_mixer (n : Fin 8) (b : Bool) : (s.setIntMask n b).mixer = s.mixer := rfl
@[simp] theorem State.setIntMask_display (n : Fin 8) (b : Bool) : (s.setIntMask n b).display = s.display := rfl
@[simp] theorem State.setIntMask_uart (n : Fin 8) (b : Bool) : (s.setIntMask n b).uart = s.uart := rfl
@[simp] theorem State.setIntMask_intStatus (n : Fin 8) (b : Bool) : (s.setIntMask n b).intStatus = s.intStatus := rfl
@[simp] theorem State.setIntMask_cycle (n : Fin 8) (b : Bool) : (s.setIntMask n b).cycle = s.cycle := rfl
@[simp] theorem State.setIntMask_nextEvent (n : Fin 8) (b : Bool) : (s.setIntMask n b).nextEvent = s.nextEvent := rfl
@[simp] theorem State.setIntMask_params (n : Fin 8) (b : Bool) : (s.setIntMask n b).params = s.params := rfl
@[simp] theorem State.setIntMask_iodir (n : Fin 8) (b : Bool) : (s.setIntMask n b).iodir = s.iodir := rfl
@[simp] theorem State.setIntMask_iodat (n : Fin 8) (b : Bool) : (s.setIntMask n b).iodat = s.iodat := rfl
@[simp] theorem State.setIntMask_halt (n : Fin 8) (b : Bool) : (s.setIntMask n b).halt = s.halt := rfl
@[simp] theorem State.setIntMask_surface (n : Fin 8) (b : Bool) : (s.setIntMask n b).surface = s.surface := rfl
@[simp] theorem State.setIntMask_mem (n : Fin 8) (b : Bool) : (s.setIntMask n b).mem = s.mem := rfl
@[simp] theorem State.setIntMask_events (n : Fin 8) (b : Bool) : (s.setIntMask n b).events = s.events := rfl
@[simp] theorem State.setIntMask_result (n : Fin 8) (b : Bool) : (s.setIntMask n b).result = s.result := rfl
@[simp] theorem State.setIntMask_pending (n : Fin 8) (b : Bool) : (s.setIntMask n b).pending = s.pending := rfl

@[simp] theorem State.emit_timers (e : Event) : (s.emit e).timers = s.timers := rfl
@[simp] theorem State.emit_audio (e : Event) : (s.emit e).audio = s.audio := rfl
@[simp] theorem State.emit_mixer (e : Event) : (s.emit e).mixer = s.mixer := rfl
@[simp] theorem State.emit_display (e : Event) : (s.emit e).display = s.display := rfl
@[simp] theorem State.emit_uart (e : Event) : (s.emit e).uart = s.uart := rfl
@[simp] theorem State.emit_intStatus (e : Event) : (s.emit e).intStatus = s.intStatus := rfl
@[simp] theorem State.emit_intMask (e : Event) : (s.emit e).intMask = s.intMask := rfl
@[simp] theorem State.emit_cycle (e : Event) : (s.emit e).cycle = s.cycle := rfl
@[simp] theorem State.emit_nextEvent (e : Event) : (s.emit e).nextEvent = s.nextEvent := rfl
@[simp] theorem State.emit_params (e : Event) : (s.emit e).params = s.params := rfl
@[simp] theorem State.emit_iodir (e : Event) : (s.emit e).iodir = s.iodir := rfl
@[simp] theorem State.emit_iodat (e : Event) : (s.emit e).iodat = s.iodat := rfl
@[simp] theorem State.emit_halt (e : Event) : (s.emit e).halt = s.halt := rfl
@[simp] theorem State.emit_surface (e : Event) : (s.emit e).surface = s.surface := rfl
@[simp] theorem State.emit_mem (e : Event) : (s.emit e).mem = s.mem := rfl
@[simp] theorem State.emit_events (e : Event) : (s.emit e).events = s.events ++ [e] := rfl
@[simp] theorem State.emit_result (e : Event) : (s.emit e).result = s.result := rfl
@[simp] theorem State.emit_pending (e : Event) : (s.emit e).pending = s.pending := rfl

@[simp] theorem State.returnByte_timers (b : Byte) : (s.returnByte b).timers = s.timers := rfl
@[simp] theorem State.returnByte_audio (b : Byte) : (s.returnByte b).audio = s.audio := rfl
@[simp] theorem State.returnByte_mixer (b : Byte) : (s.returnByte b).mixer = s.mixer := rfl
@[simp] theorem State.returnByte_display (b : Byte) : (s.returnByte b).display = s.display := rfl
@[simp] theorem State.returnByte_uart (b : Byte) : (s.returnByte b).uart = s.uart := rfl
@[simp] theorem State.returnByte_intStatus (b : Byte) : (s.returnByte b).intStatus = s.intStatus := rfl
@[simp] theorem State.returnByte_intMask (b : Byte) : (s.returnByte b).intMask = s.intMask := rfl
@[simp] theorem State.returnByte_cycle (b : Byte) : (s.returnByte b).cycle = s.cycle := rfl
@[simp] theorem State.returnByte_nextEvent (b : Byte) : (s.returnByte b).nextEvent = s.nextEvent := rfl
@[simp] theorem State.returnByte_params (b : Byte) : (s.returnByte b).params = s.params := rfl
@[simp] theorem State.returnByte_iodir (b : Byte) : (s.returnByte b).iodir = s.iodir := rfl
@[simp] theorem State.returnByte_iodat (b : Byte) : (s.returnByte b).iodat = s.iodat := rfl
@[simp] theorem State.returnByte_halt (b : Byte) : (s.returnByte b).halt = s.halt := rfl
@[simp] theorem State.returnByte_surface (b : Byte) : (s.returnByte b).surface = s.surface := rfl
@[simp] theorem State.returnByte_mem (b : Byte) : (s.returnByte b).mem = s.mem := rfl
@[simp] theorem State.returnByte_events (b : Byte) : (s.returnByte b).events = s.events := rfl
@[simp] theorem State.returnByte_result (b : Byte) : (s.returnByte b).result = some b := rfl
@[simp] theorem State.returnByte_pending (b : Byte) : (s.returnByte b).pending = s.pending := rfl

@[simp] theorem State.reschedule_timers : (s.reschedule).timers = s.timers := rfl
@[simp] theorem State.reschedule_audio : (s.reschedule).audio = s.audio := rfl
@[simp] theorem State.reschedule_mixer : (s.reschedule).mixer = s.mixer := rfl
@[simp] theorem State.reschedule_display : (s.reschedule).display = s.display := rfl
@[simp] theorem State.reschedule_uart : (s.reschedule).uart = s.uart := rfl
@[simp] theorem State.reschedule_intStatus : (s.reschedule).intStatus = s.intStatus := rfl
@[simp] theorem State.reschedule_intMask : (s.reschedule).intMask = s.intMask := rfl
@[simp] theorem State.reschedule_cycle : (s.reschedule).cycle = s.cycle := rfl
@[simp] theorem State.reschedule_nextEvent : (s.reschedule).nextEvent = s.cycle := rfl
@[simp] theorem State.reschedule_params : (s.reschedule).params = s.params := rfl
@[simp] theorem State.reschedule_iodir : (s.reschedule).iodir = s.iodir := rfl
@[simp] theorem State.reschedule_iodat : (s.reschedule).iodat = s.iodat := rfl
@[simp] theorem State.reschedule_halt : (s.reschedule).halt = s.halt := rfl
@[simp] theorem State.reschedule_surface : (s.reschedule).surface = s.surface := rfl
@[simp] theorem State.reschedule_mem : (s.reschedule).mem = s.mem := rfl
@[simp] theorem State.reschedule_events : (s.reschedule).events = s.events := rfl
@[simp] theorem State.reschedule_result : (s.reschedule).result = s.result := rfl
@[simp] theorem State.reschedule_pending : (s.reschedule).pending = s.pending := rfl

@[simp] theorem State.raiseInt_timers (k : Nat) : (s.raiseInt k).timers = s.timers := rfl
@[simp] theorem State.raiseInt_audio (k : Nat) : (s.raiseInt k).audio = s.audio := rfl
@[simp] theorem State.raiseInt_mixer (k : Nat) : (s.raiseInt k).mixer = s.mixer := rfl
@[simp] theorem State.raiseInt_display (k : Nat) : (s.raiseInt k).display = s.display := rfl
@[simp] theorem State.raiseInt_uart (k : Nat) : (s.raiseInt k).uart = s.uart := rfl
@[simp] theorem State.raiseInt_intStatus (k : Nat) : (s.raiseInt k).intStatus = s.intStatus ||| (1#8 <<< k) := rfl
@[simp] theorem State.raiseInt_intMask (k : Nat) : (s.raiseInt k).intMask = s.intMask := rfl
@[simp] theorem State.raiseInt_cycle (k : Nat) : (s.raiseInt k).cycle = s.cycle := rfl
@[simp] theorem State.raiseInt_nextEvent (k : Nat) : (s.raiseInt k).nextEvent = s.nextEvent := rfl
@[simp] theorem State.raiseInt_params (k : Nat) : (s.raiseInt k).params = s.params := rfl
@[simp] theorem State.raiseInt_iodir (k : Nat) : (s.raiseInt k).iodir = s.iodir := rfl
@[simp] theorem State.raiseInt_iodat (k : Nat) : (s.raiseInt k).iodat = s.iodat := rfl
@[simp] theorem State.raiseInt_halt (k : Nat) : (s.raiseInt k).halt = s.halt := rfl
@[simp] theorem State.raiseInt_surface (k : Nat) : (s.raiseInt k).surface = s.surface := rfl
@[simp] theorem State.raiseInt_mem (k : Nat) : (s.raiseInt k).mem = s.mem := rfl
@[simp] theorem State.raiseInt_events (k : Nat) : (s.raiseInt k).events = s.events := rfl
@[simp] theorem State.raiseInt_result (k : Nat) : (s.raiseInt k).result = s.result := rfl
@[simp] theorem State.raiseInt_pending (k : Nat) : (s.raiseInt k).pending = s.pending := rfl

@[simp] theorem State.hostMemWrite_timers (adr : BitVec 16) (b : Byte) : (s.hostMemWrite adr b).timers = s.timers := rfl
@[simp] theorem State.hostMemWrite_audio (adr : BitVec 16) (b : Byte) : (s.hostMemWrite adr b).audio = s.audio := rfl
@[simp] theorem State.hostMemWrite_mixer (adr : BitVec 16) (b : Byte) : (s.hostMemWrite adr b).mixer = s.mixer := rfl
@[simp] theorem State.hostMemWrite_display (adr : BitVec 16) (b : Byte) : (s.hostMemWrite adr b).display = s.display := rfl
@[simp] theorem State.hostMemWrite_uart (adr : BitVec 16) (b : Byte) : (s.hostMemWrite adr b).uart = s.uart := rfl
@[simp] theorem State.hostMemWrite_intStatus (adr : BitVec 16) (b : Byte) : (s.hostMemWrite adr b).intStatus = s.intStatus := rfl
@[simp] theorem State.hostMemWrite_intMask (adr : BitVec 16) (b : Byte) : (s.hostMemWrite adr b).intMask = s.intMask := rfl
@[simp] theorem State.hostMemWrite_cycle (adr : BitVec 16) (b : Byte) : (s.hostMemWrite adr b).cycle = s.cycle := rfl
@[simp] theorem State.hostMemWrite_nextEvent (adr : BitVec 16) (b : Byte) : (s.hostMemWrite adr b).nextEvent = s.nextEvent := rfl
@[simp] theorem State.hostMemWrite_params (adr : BitVec 16) (b : Byte) : (s.hostMemWrite adr b).params = s.params := rfl
@[simp] theorem State.hostMemWrite_iodir (adr : BitVec 16) (b : Byte) : (s.hostMemWrite adr b).iodir = s.iodir := rfl
@[simp] theorem State.hostMemWrite_iodat (adr : BitVec 16) (b : Byte) : (s.hostMemWrite adr b).iodat = s.iodat := rfl
@[simp] theorem State.hostMemWrite_halt (adr : BitVec 16) (b : Byte) : (s.hostMemWrite adr b).halt = s.halt := rfl
@[simp] theorem State.hostMemWrite_surface (adr : BitVec 16) (b : Byte) : (s.hostMemWrite adr b).surface = s.surface := rfl
@[simp] theorem State.hostMemWrite_mem (adr : BitVec 16) (b : Byte) : (s.hostMemWrite adr b).mem = Memory.write s.mem adr b := rfl
@[simp] theorem State.hostMemWrite_events (adr : BitVec 16) (b : Byte) : (s.hostMemWrite adr b).events = s.events := rfl
@[simp] theorem State.hostMemWrite_result (adr : BitVec 16) (b : Byte) : (s.hostMemWrite adr b).result = s.result := rfl
@[simp] theorem State.hostMemWrite_pending (adr : BitVec 16) (b : Byte) : (s.hostMemWrite adr b).pending = s.pending := rfl

@[simp] theorem State.setCounter_mixer (ref : CounterRef) (x : Counter) : (s.setCounter ref x).mixer = s.mixer := by cases ref <;> rfl
@[simp] theorem State.setCounter_display (ref : CounterRef) (x : Counter) : (s.setCounter ref x).display = s.display := by cases ref <;> rfl
@[simp] theorem State.setCounter_uart (ref : CounterRef) (x : Counter) : (s.setCounter ref x).uart = s.uart := by cases ref <;> rfl
@[simp] theorem State.setCounter_intStatus (ref : CounterRef) (x : Counter) : (s.setCounter ref x).intStatus = s.intStatus := by cases ref <;> rfl
@[simp] theorem State.setCounter_intMask (ref : CounterRef) (x : Counter) : (s.setCounter ref x).intMask = s.intMask := by cases ref <;> rfl
@[simp] theorem State.setCounter_cycle (ref : CounterRef) (x : Counter) : (s.setCounter ref x).cycle = s.cycle := by cases ref <;> rfl
@[simp] theorem State.setCounter_nextEvent (ref : CounterRef) (x : Counter) : (s.setCounter ref x).nextEvent = s.nextEvent := by cases ref <;> rfl
@[simp] theorem State.setCounter_params (ref : CounterRef) (x : Counter) : (s.setCounter ref x).params = s.params := by cases ref <;> rfl
@[simp] theorem State.setCounter_iodir (ref : CounterRef) (x : Counter) : (s.setCounter ref x).iodir = s.iodir := by cases ref <;> rfl
@[simp] theorem State.setCounter_iodat (ref : CounterRef) (x : Counter) : (s.setCounter ref x).iodat = s.iodat := by cases ref <;> rfl
@[simp] theorem State.setCounter_halt (ref : CounterRef) (x : Counter) : (s.setCounter ref x).halt = s.halt := by cases ref <;> rfl
@[simp] theorem State.setCounter_surface (ref : CounterRef) (x : Counter) : (s.setCounter ref x).surface = s.surface := by cases ref <;> rfl
@[simp] theorem State.setCounter_mem (ref : CounterRef) (x : Counter) : (s.setCounter ref x).mem = s.mem := by cases ref <;> rfl
@[simp] theorem State.setCounter_events (ref : CounterRef) (x : Counter) : (s.setCounter ref x).events = s.events := by cases ref <;> rfl
@[simp] theorem State.setCounter_result (ref : CounterRef) (x : Counter) : (s.setCounter ref x).result = s.result := by cases ref <;> rfl
@[simp] theorem State.setCounter_pending (ref : CounterRef) (x : Counter) : (s.setCounter ref x).pending = s.pending := by cases ref <;> rfl

@[simp] theorem State.setLinkCarry_mixer (ref : CounterRef) (b : Bool) : (s.setLinkCarry ref b).mixer = s.mixer := by cases ref <;> rfl
@[simp] theorem State.setLinkCarry_display (ref : CounterRef) (b : Bool) : (s.setLinkCarry ref b).display = s.display := by cases ref <;> rfl
@[simp] theorem State.setLinkCarry_uart (ref : CounterRef) (b : Bool) : (s.setLinkCarry ref b).uart = s.uart := by cases ref <;> rfl
@[simp] theorem State.setLinkCarry_intStatus (ref : CounterRef) (b : Bool) : (s.setLinkCarry ref b).intStatus = s.intStatus := by cases ref <;> rfl
@[simp] theorem State.setLinkCarry_intMask (ref : CounterRef) (b : Bool) : (s.setLinkCarry ref b).intMask = s.intMask := by cases ref <;> rfl
@[simp] theorem State.setLinkCarry_cycle (ref : CounterRef) (b : Bool) : (s.setLinkCarry ref b).cycle = s.cycle := by cases ref <;> rfl
@[simp] theorem State.setLinkCarry_nextEvent (ref : CounterRef) (b : Bool) : (s.setLinkCarry ref b).nextEvent = s.nextEvent := by cases ref <;> rfl
@[simp] theorem State.setLinkCarry_params (ref : CounterRef) (b : Bool) : (s.setLinkCarry ref b).params = s.params := by cases ref <;> rfl
@[simp] theorem State.setLinkCarry_iodir (ref : CounterRef) (b : Bool) : (s.setLinkCarry ref b).iodir = s.iodir := by cases ref <;> rfl
@[simp] theorem State.setLinkCarry_iodat (ref : CounterRef) (b : Bool) : (s.setLinkCarry ref b).iodat = s.iodat := by cases ref <;> rfl
@[simp] theorem State.setLinkCarry_halt (ref : CounterRef) (b : Bool) : (s.setLinkCarry ref b).halt = s.halt := by cases ref <;> rfl
@[simp] theorem State.setLinkCarry_surface (ref : CounterRef) (b : Bool) : (s.setLinkCarry ref b).surface = s.surface := by cases ref <;> rfl
@[simp] theorem State.setLinkCarry_mem (ref : CounterRef) (b : Bool) : (s.setLinkCarry ref b).mem = s.mem := by cases ref <;> rfl
@[simp] theorem State.setLinkCarry_events (ref : CounterRef) (b : Bool) : (s.setLinkCarry ref b).events = s.events := by cases ref <;> rfl
@[simp] theorem State.setLinkCarry_result (ref : CounterRef) (b : Bool) : (s.setLinkCarry ref b).result = s.result := by cases ref <;> rfl
@[simp] theorem State.setLinkCarry_pending (ref : CounterRef) (b : Bool) : (s.setLinkCarry ref b).pending = s.pending := by cases ref <;> rfl

@[simp] theorem State.publish_timers (t : Stamp) : (s.publish t).timers = s.timers := by
  unfold State.publish; split <;> rfl
@[simp] theorem State.publish_audio (t : Stamp) : (s.publish t).audio = s.audio := by
  unfold State.publish; split <;> rfl
@[simp] theorem State.publish_mixer (t : Stamp) : (s.publish t).mixer = s.mixer := by
  unfold State.publish; split <;> rfl
@[simp] theorem State.publish_display (t : Stamp) : (s.publish t).display = s.display := by
  unfold State.publish; split <;> rfl
@[simp] theorem State.publish_uart (t : Stamp) : (s.publish t).uart = s.uart := by
  unfold State.publish; split <;> rfl
@[simp] theorem State.publish_intStatus (t : Stamp) : (s.publish t).intStatus = s.intStatus := by
  unfold State.publish; split <;> rfl
@[simp] theorem State.publish_intMask (t : Stamp) : (s.publish t).intMask = s.intMask := by
  unfold State.publish; split <;> rfl
@[simp] theorem State.publish_cycle (t : Stamp) : (s.publish t).cycle = s.cycle := by
  unfold State.publish; split <;> rfl
@[simp] theorem State.publish_params (t : Stamp) : (s.publish t).params = s.params := by
  unfold State.publish; split <;> rfl
@[simp] theorem State.publish_iodir (t : Stamp) : (s.publish t).iodir = s.iodir := by
  unfold State.publish; split <;> rfl
@[simp] theorem State.publish_iodat (t : Stamp) : (s.publish t).iodat = s.iodat := by
  unfold State.publish; split <;> rfl
@[simp] theorem State.publish_halt (t : Stamp) : (s.publish t).halt = s.halt := by
  unfold State.publish; split <;> rfl
@[simp] theorem State.publish_surface (t : Stamp) : (s.publish t).surface = s.surface := by
  unfold State.publish; split <;> rfl
@[simp] theorem State.publish_mem (t : Stamp) : (s.publish t).mem = s.mem := by
  unfold State.publish; split <;> rfl
@[simp] theorem State.publish_events (t : Stamp) : (s.publish t).events = s.events := by
  unfold State.publish; split <;> rfl
@[simp] theorem State.publish_result (t : Stamp) : (s.publish t).result = s.result := by
  unfold State.publish; split <;> rfl
@[simp] theorem State.publish_pending (t : Stamp) : (s.publish t).pending = s.pending := by
  unfold State.publish; split <;> rfl

@[simp] theorem State.raiseIfEnabled_timers (k : Nat) : (s.raiseIfEnabled k).timers = s.timers := by
  unfold State.raiseIfEnabled; split <;> rfl
@[simp] theorem State.raiseIfEnabled_audio (k : Nat) : (s.raiseIfEnabled k).audio = s.audio := by
  unfold State.raiseIfEnabled; split <;> rfl
@[simp] theorem State.raiseIfEnabled_mixer (k : Nat) : (s.raiseIfEnabled k).mixer = s.mixer := by
  unfold State.raiseIfEnabled; split <;> rfl
@[simp] theorem State.raiseIfEnabled_display (k : Nat) : (s.raiseIfEnabled k).display = s.display := by
  unfold State.raiseIfEnabled; split <;> rfl
@[simp] theorem State.raiseIfEnabled_uart (k : Nat) : (s.raiseIfEnabled k).uart = s.uart := by
  unfold State.raiseIfEnabled; split <;> rfl
@[simp] theorem State.raiseIfEnabled_intMask (k : Nat) : (s.raiseIfEnabled k).intMask = s.intMask := by
  unfold State.raiseIfEnabled; split <;> rfl
@[simp] theorem State.raiseIfEnabled_cycle (k : Nat) : (s.raiseIfEnabled k).cycle = s.cycle := by
  unfold State.raiseIfEnabled; split <;> rfl
@[simp] theorem State.raiseIfEnabled_nextEvent (k : Nat) : (s.raiseIfEnabled k).nextEvent = s.nextEvent := by
  unfold State.raiseIfEnabled; split <;> rfl
@[simp] theorem State.raiseIfEnabled_params (k : Nat) : (s.raiseIfEnabled k).params = s.params := by
  unfold State.raiseIfEnabled; split <;> rfl
@[simp] theorem State.raiseIfEnabled_iodir (k : Nat) : (s.raiseIfEnabled k).iodir = s.iodir := by
  unfold State.raiseIfEnabled; split <;> rfl
@[simp] theorem State.raiseIfEnabled_iodat (k : Nat) : (s.raiseIfEnabled k).iodat = s.iodat := by
  unfold State.raiseIfEnabled; split <;> rfl
@[simp] theorem State.raiseIfEnabled_halt (k : Nat) : (s.raiseIfEnabled k).halt = s.halt := by
  unfold State.raiseIfEnabled; split <;> rfl
@[simp] theorem State.raiseIfEnabled_surface (k : Nat) : (s.raiseIfEnabled k).surface = s.surface := by
  unfold State.raiseIfEnabled; split <;> rfl
@[simp] theorem State.raiseIfEnabled_mem (k : Nat) : (s.raiseIfEnabled k).mem = s.mem := by
  unfold State.raiseIfEnabled; split <;> rfl
@[simp] theorem State.raiseIfEnabled_events (k : Nat) : (s.raiseIfEnabled k).events = s.events := by
  unfold State.raiseIfEnabled; split <;> rfl
@[simp] theorem State.raiseIfEnabled_result (k : Nat) : (s.raiseIfEnabled k).result = s.result := by
  unfold State.raiseIfEnabled; split <;> rfl
@[simp] theorem State.raiseIfEnabled_pending (k : Nat) : (s.raiseIfEnabled k).pending = s.pending := by
  unfold State.raiseIfEnabled; split <;> rfl

/-! ### An access after a write -/

@[simp] theorem State.timer_setTimer (n : Fin 8) (t : Timer) : (s.setTimer n t).timer n = t := by
  simp [State.timer, State.setTimer]

theorem State.timer_setTimer_ne (t : Timer) {m n : Fin 8} (h : m ≠ n) :
    (s.setTimer n t).timer m = s.timer m := by
  have : n.val ≠ m.val := fun e => h (Fin.ext e.symm)
  simp [State.timer, State.setTimer, this]

@[simp] theorem State.channel_setChannel (c : Fin 4) (a : AudioChannel) : (s.setChannel c a).channel c = a := by
  simp [State.channel, State.setChannel]

theorem State.channel_setChannel_ne (a : AudioChannel) {d c : Fin 4} (h : d ≠ c) :
    (s.setChannel c a).channel d = s.channel d := by
  have : c.val ≠ d.val := fun e => h (Fin.ext e.symm)
  simp [State.channel, State.setChannel, this]

@[simp] theorem State.palEntry_setPalEntry (i : Fin 16) (p : PalEntry) : (s.setPalEntry i p).palEntry i = p := by
  simp [State.palEntry, State.setPalEntry]

theorem State.palEntry_setPalEntry_ne (p : PalEntry) {j i : Fin 16} (h : j ≠ i) :
    (s.setPalEntry i p).palEntry j = s.palEntry j := by
  have : i.val ≠ j.val := fun e => h (Fin.ext e.symm)
  simp [State.palEntry, State.setPalEntry, this]

@[simp] theorem State.attenuation_setAttenuation (c : Fin 4) (v : Byte) :
    (s.setAttenuation c v).attenuation c = v := by
  simp [State.attenuation, State.setAttenuation]

theorem State.attenuation_setAttenuation_ne (v : Byte) {d c : Fin 4} (h : d ≠ c) :
    (s.setAttenuation c v).attenuation d = s.attenuation d := by
  have : c.val ≠ d.val := fun e => h (Fin.ext e.symm)
  simp [State.attenuation, State.setAttenuation, this]

/-- The timers and channels decide the counters. -/
theorem State.counter_congr {s t : State} (ht : s.timers = t.timers) (ha : s.audio = t.audio)
    (ref : CounterRef) : s.counter ref = t.counter ref := by
  cases ref <;> simp [State.counter, State.timer, State.channel, ht, ha]

@[simp] theorem State.counter_setCounter (ref : CounterRef) (x : Counter) :
    (s.setCounter ref x).counter ref = x := by
  cases ref <;> simp [State.counter, State.setCounter]

theorem State.counter_setCounter_ne (x : Counter) {ref ref' : CounterRef} (h : ref' ≠ ref) :
    (s.setCounter ref x).counter ref' = s.counter ref' := by
  cases ref <;> cases ref' <;> simp only [State.counter, State.setCounter]
  · rw [State.timer_setTimer_ne]; exact fun e => h (by rw [e])
  · rfl
  · rfl
  · rw [State.channel_setChannel_ne]; exact fun e => h (by rw [e])

@[simp] theorem State.counter_setLinkCarry (ref ref' : CounterRef) (b : Bool) :
    (s.setLinkCarry ref b).counter ref' = s.counter ref' := by
  cases ref with
  | audio c => rfl
  | timer n =>
    cases ref' with
    | audio c => rfl
    | timer m =>
      simp only [State.counter, State.setLinkCarry]
      by_cases h : m = n
      · subst h; simp
      · rw [State.timer_setTimer_ne _ _ h]

/-- A write of a channel's counter keeps what is the channel's own. -/
theorem State.channel_setCounter (ref : CounterRef) (x : Counter) (c : Fin 4) :
    ((s.setCounter ref x).channel c).output = (s.channel c).output ∧
      ((s.setCounter ref x).channel c).waveshaper = (s.channel c).waveshaper ∧
      ((s.setCounter ref x).channel c).volume = (s.channel c).volume ∧
      ((s.setCounter ref x).channel c).integrate = (s.channel c).integrate := by
  cases ref with
  | timer n => exact ⟨rfl, rfl, rfl, rfl⟩
  | audio d =>
    by_cases h : c = d
    · subst h; simp [State.setCounter]
    · simp [State.setCounter, State.channel_setChannel_ne _ _ h]

/-- A write of a timer's counter keeps the timer's link carry. -/
theorem State.lastLinkCarry_setCounter (ref : CounterRef) (x : Counter) (n : Fin 8) :
    ((s.setCounter ref x).timer n).lastLinkCarry = (s.timer n).lastLinkCarry := by
  cases ref with
  | audio c => rfl
  | timer m =>
    by_cases h : n = m
    · subst h; simp [State.setCounter]
    · simp [State.setCounter, State.timer_setTimer_ne _ _ h]

/-! ### An access after a write of another part -/

@[simp] theorem State.channel_setTimer (n : Fin 8) (t : Timer) (d : Fin 4) : (s.setTimer n t).channel d = s.channel d := rfl
@[simp] theorem State.palEntry_setTimer (n : Fin 8) (t : Timer) (j : Fin 16) : (s.setTimer n t).palEntry j = s.palEntry j := rfl
@[simp] theorem State.attenuation_setTimer (n : Fin 8) (t : Timer) (d : Fin 4) : (s.setTimer n t).attenuation d = s.attenuation d := rfl
@[simp] theorem State.timer_setChannel (c : Fin 4) (a : AudioChannel) (m : Fin 8) : (s.setChannel c a).timer m = s.timer m := rfl
@[simp] theorem State.palEntry_setChannel (c : Fin 4) (a : AudioChannel) (j : Fin 16) : (s.setChannel c a).palEntry j = s.palEntry j := rfl
@[simp] theorem State.attenuation_setChannel (c : Fin 4) (a : AudioChannel) (d : Fin 4) : (s.setChannel c a).attenuation d = s.attenuation d := rfl
@[simp] theorem State.timer_setPalEntry (i : Fin 16) (p : PalEntry) (m : Fin 8) : (s.setPalEntry i p).timer m = s.timer m := rfl
@[simp] theorem State.channel_setPalEntry (i : Fin 16) (p : PalEntry) (d : Fin 4) : (s.setPalEntry i p).channel d = s.channel d := rfl
@[simp] theorem State.counter_setPalEntry (i : Fin 16) (p : PalEntry) (ref : CounterRef) : (s.setPalEntry i p).counter ref = s.counter ref := by cases ref <;> rfl
@[simp] theorem State.attenuation_setPalEntry (i : Fin 16) (p : PalEntry) (d : Fin 4) : (s.setPalEntry i p).attenuation d = s.attenuation d := rfl
@[simp] theorem State.timer_setAttenuation (c : Fin 4) (v : Byte) (m : Fin 8) : (s.setAttenuation c v).timer m = s.timer m := rfl
@[simp] theorem State.channel_setAttenuation (c : Fin 4) (v : Byte) (d : Fin 4) : (s.setAttenuation c v).channel d = s.channel d := rfl
@[simp] theorem State.counter_setAttenuation (c : Fin 4) (v : Byte) (ref : CounterRef) : (s.setAttenuation c v).counter ref = s.counter ref := by cases ref <;> rfl
@[simp] theorem State.palEntry_setAttenuation (c : Fin 4) (v : Byte) (j : Fin 16) : (s.setAttenuation c v).palEntry j = s.palEntry j := rfl
@[simp] theorem State.timer_setIntMask (n : Fin 8) (b : Bool) (m : Fin 8) : (s.setIntMask n b).timer m = s.timer m := rfl
@[simp] theorem State.channel_setIntMask (n : Fin 8) (b : Bool) (d : Fin 4) : (s.setIntMask n b).channel d = s.channel d := rfl
@[simp] theorem State.counter_setIntMask (n : Fin 8) (b : Bool) (ref : CounterRef) : (s.setIntMask n b).counter ref = s.counter ref := by cases ref <;> rfl
@[simp] theorem State.palEntry_setIntMask (n : Fin 8) (b : Bool) (j : Fin 16) : (s.setIntMask n b).palEntry j = s.palEntry j := rfl
@[simp] theorem State.attenuation_setIntMask (n : Fin 8) (b : Bool) (d : Fin 4) : (s.setIntMask n b).attenuation d = s.attenuation d := rfl
@[simp] theorem State.timer_emit (e : Event) (m : Fin 8) : (s.emit e).timer m = s.timer m := rfl
@[simp] theorem State.channel_emit (e : Event) (d : Fin 4) : (s.emit e).channel d = s.channel d := rfl
@[simp] theorem State.counter_emit (e : Event) (ref : CounterRef) : (s.emit e).counter ref = s.counter ref := by cases ref <;> rfl
@[simp] theorem State.palEntry_emit (e : Event) (j : Fin 16) : (s.emit e).palEntry j = s.palEntry j := rfl
@[simp] theorem State.attenuation_emit (e : Event) (d : Fin 4) : (s.emit e).attenuation d = s.attenuation d := rfl
@[simp] theorem State.timer_returnByte (b : Byte) (m : Fin 8) : (s.returnByte b).timer m = s.timer m := rfl
@[simp] theorem State.channel_returnByte (b : Byte) (d : Fin 4) : (s.returnByte b).channel d = s.channel d := rfl
@[simp] theorem State.counter_returnByte (b : Byte) (ref : CounterRef) : (s.returnByte b).counter ref = s.counter ref := by cases ref <;> rfl
@[simp] theorem State.palEntry_returnByte (b : Byte) (j : Fin 16) : (s.returnByte b).palEntry j = s.palEntry j := rfl
@[simp] theorem State.attenuation_returnByte (b : Byte) (d : Fin 4) : (s.returnByte b).attenuation d = s.attenuation d := rfl
@[simp] theorem State.timer_reschedule (m : Fin 8) : (s.reschedule).timer m = s.timer m := rfl
@[simp] theorem State.channel_reschedule (d : Fin 4) : (s.reschedule).channel d = s.channel d := rfl
@[simp] theorem State.counter_reschedule (ref : CounterRef) : (s.reschedule).counter ref = s.counter ref := by cases ref <;> rfl
@[simp] theorem State.palEntry_reschedule (j : Fin 16) : (s.reschedule).palEntry j = s.palEntry j := rfl
@[simp] theorem State.attenuation_reschedule (d : Fin 4) : (s.reschedule).attenuation d = s.attenuation d := rfl
@[simp] theorem State.timer_raiseInt (k : Nat) (m : Fin 8) : (s.raiseInt k).timer m = s.timer m := rfl
@[simp] theorem State.channel_raiseInt (k : Nat) (d : Fin 4) : (s.raiseInt k).channel d = s.channel d := rfl
@[simp] theorem State.counter_raiseInt (k : Nat) (ref : CounterRef) : (s.raiseInt k).counter ref = s.counter ref := by cases ref <;> rfl
@[simp] theorem State.palEntry_raiseInt (k : Nat) (j : Fin 16) : (s.raiseInt k).palEntry j = s.palEntry j := rfl
@[simp] theorem State.attenuation_raiseInt (k : Nat) (d : Fin 4) : (s.raiseInt k).attenuation d = s.attenuation d := rfl
@[simp] theorem State.timer_hostMemWrite (adr : BitVec 16) (b : Byte) (m : Fin 8) : (s.hostMemWrite adr b).timer m = s.timer m := rfl
@[simp] theorem State.channel_hostMemWrite (adr : BitVec 16) (b : Byte) (d : Fin 4) : (s.hostMemWrite adr b).channel d = s.channel d := rfl
@[simp] theorem State.counter_hostMemWrite (adr : BitVec 16) (b : Byte) (ref : CounterRef) : (s.hostMemWrite adr b).counter ref = s.counter ref := by cases ref <;> rfl
@[simp] theorem State.palEntry_hostMemWrite (adr : BitVec 16) (b : Byte) (j : Fin 16) : (s.hostMemWrite adr b).palEntry j = s.palEntry j := rfl
@[simp] theorem State.attenuation_hostMemWrite (adr : BitVec 16) (b : Byte) (d : Fin 4) : (s.hostMemWrite adr b).attenuation d = s.attenuation d := rfl
@[simp] theorem State.palEntry_setCounter (ref : CounterRef) (x : Counter) (j : Fin 16) : (s.setCounter ref x).palEntry j = s.palEntry j := by cases ref <;> rfl
@[simp] theorem State.attenuation_setCounter (ref : CounterRef) (x : Counter) (d : Fin 4) : (s.setCounter ref x).attenuation d = s.attenuation d := by cases ref <;> rfl
@[simp] theorem State.channel_setLinkCarry (ref : CounterRef) (b : Bool) (d : Fin 4) : (s.setLinkCarry ref b).channel d = s.channel d := by cases ref <;> rfl
@[simp] theorem State.palEntry_setLinkCarry (ref : CounterRef) (b : Bool) (j : Fin 16) : (s.setLinkCarry ref b).palEntry j = s.palEntry j := by cases ref <;> rfl
@[simp] theorem State.attenuation_setLinkCarry (ref : CounterRef) (b : Bool) (d : Fin 4) : (s.setLinkCarry ref b).attenuation d = s.attenuation d := by cases ref <;> rfl
@[simp] theorem State.timer_publish (t : Stamp) (m : Fin 8) : (s.publish t).timer m = s.timer m := by
  unfold State.publish; split <;> rfl
@[simp] theorem State.channel_publish (t : Stamp) (d : Fin 4) : (s.publish t).channel d = s.channel d := by
  unfold State.publish; split <;> rfl
@[simp] theorem State.counter_publish (t : Stamp) (ref : CounterRef) : (s.publish t).counter ref = s.counter ref := by
  unfold State.publish; split <;> (cases ref <;> rfl)
@[simp] theorem State.palEntry_publish (t : Stamp) (j : Fin 16) : (s.publish t).palEntry j = s.palEntry j := by
  unfold State.publish; split <;> rfl
@[simp] theorem State.attenuation_publish (t : Stamp) (d : Fin 4) : (s.publish t).attenuation d = s.attenuation d := by
  unfold State.publish; split <;> rfl
@[simp] theorem State.timer_raiseIfEnabled (k : Nat) (m : Fin 8) : (s.raiseIfEnabled k).timer m = s.timer m := by
  unfold State.raiseIfEnabled; split <;> rfl
@[simp] theorem State.channel_raiseIfEnabled (k : Nat) (d : Fin 4) : (s.raiseIfEnabled k).channel d = s.channel d := by
  unfold State.raiseIfEnabled; split <;> rfl
@[simp] theorem State.counter_raiseIfEnabled (k : Nat) (ref : CounterRef) : (s.raiseIfEnabled k).counter ref = s.counter ref := by
  unfold State.raiseIfEnabled; split <;> (cases ref <;> rfl)
@[simp] theorem State.palEntry_raiseIfEnabled (k : Nat) (j : Fin 16) : (s.raiseIfEnabled k).palEntry j = s.palEntry j := by
  unfold State.raiseIfEnabled; split <;> rfl
@[simp] theorem State.attenuation_raiseIfEnabled (k : Nat) (d : Fin 4) : (s.raiseIfEnabled k).attenuation d = s.attenuation d := by
  unfold State.raiseIfEnabled; split <;> rfl

end Sys2Proof.Machine
end

