-- ==== Sys2Proof/Laws/Counter.lean ====
section
/-! SUPPORT. What the generic counter step, the prediction and the rebase can do: one case lemma for each,
and the principle by which a property passes through a step. -/

namespace Sys2Proof.Machine

/-- Everything `consumeTicks` can do (R71): no tick, ticks without underflow, ticks with one underflow. -/
theorem consumeTicks_cases (ref : CounterRef) (ticks : Stamp) (reload : Counter → Counter)
    (f : State → State) (s : State) :
    (ticks = 0#32 ∧ consumeTicks ref ticks reload f s = s.setCounter ref (s.counter ref).idle) ∨
    (ticks ≠ 0#32 ∧ 0 ≤ (s.counter ref).current - (ticks.toNat : Int) ∧
      consumeTicks ref ticks reload f s =
        s.setCounter ref { (s.counter ref).tick ticks with borrowOut := false }) ∨
    (ticks ≠ 0#32 ∧ (s.counter ref).current - (ticks.toNat : Int) < 0 ∧
      consumeTicks ref ticks reload f s =
        (f (s.setCounter ref { (s.counter ref).tick ticks with borrowOut := true })).setCounter ref
          (reload ((f (s.setCounter ref { (s.counter ref).tick ticks with borrowOut := true })).counter ref))) := by
  by_cases h : ticks = 0#32
  · exact .inl ⟨h, by simp [consumeTicks, h]⟩
  · by_cases h2 : (s.counter ref).current - (ticks.toNat : Int) < 0
    · exact .inr (.inr ⟨h, h2, by simp [consumeTicks, h, Counter.tick, h2]⟩)
    · exact .inr (.inl ⟨h, by omega, by simp [consumeTicks, h, Counter.tick, h2]⟩)

/-- Everything `counterStep` can do (R71): not counting, linked, clocked. -/
theorem counterStep_cases (ref : CounterRef) (linkable src : Bool) (sh : Nat) (f : State → State) (s : State) :
    ((s.counter ref).counting = false ∧
      counterStep ref linkable src sh f s = s.setCounter ref (s.counter ref).idle) ∨
    ((s.counter ref).counting = true ∧ linkable = true ∧ (s.counter ref).linking = Config.linkSel ∧
      counterStep ref linkable src sh f s =
        consumeTicks ref (if src then 1 else 0) Counter.reloadOrClamp f (s.setLinkCarry ref src)) ∨
    ((s.counter ref).counting = true ∧ (linkable = false ∨ (s.counter ref).linking ≠ Config.linkSel) ∧
      counterStep ref linkable src sh f s =
        consumeTicks ref ((s.counter ref).elapsedTicks s.cycle sh) Counter.reloadOrClamp f
          (s.setCounter ref
            ((s.counter ref).sync ((s.counter ref).elapsedTicks s.cycle sh) sh))) := by
  by_cases hc : (s.counter ref).counting = true
  · by_cases hl : linkable = true ∧ (s.counter ref).linking = Config.linkSel
    · exact .inr (.inl ⟨hc, hl.1, hl.2, by simp [counterStep, hc, hl.1, hl.2]⟩)
    · refine .inr (.inr ⟨hc, ?_, ?_⟩)
      · cases linkable <;> simp_all
      · have : (linkable && (s.counter ref).linking == Config.linkSel) = false := by
          cases linkable <;> simp_all
        simp [counterStep, hc, this]
  · exact .inl ⟨by simpa using hc, by simp [counterStep, hc]⟩

section keeps

variable {P : State → Prop} {ref : CounterRef} {f : State → State}

/-- A property that counter writes and the counter's action keep passes through `consumeTicks`. -/
theorem consumeTicks_keeps (hset : ∀ s x, P s → P (s.setCounter ref x)) (hf : ∀ s, P s → P (f s))
    (ticks : Stamp) (reload : Counter → Counter) {s : State} (h : P s) : P (consumeTicks ref ticks reload f s) := by
  obtain ⟨-, e⟩ | ⟨-, -, e⟩ | ⟨-, -, e⟩ := consumeTicks_cases ref ticks reload f s <;> rw [e]
  · exact hset _ _ h
  · exact hset _ _ h
  · exact hset _ _ (hf _ (hset _ _ h))

/-- A property that counter writes, link carry writes and the counter's action keep passes through
`counterStep`. -/
theorem counterStep_keeps (hset : ∀ s x, P s → P (s.setCounter ref x))
    (hlink : ∀ s b, P s → P (s.setLinkCarry ref b)) (hf : ∀ s, P s → P (f s)) (linkable src : Bool) (sh : Nat)
    {s : State} (h : P s) : P (counterStep ref linkable src sh f s) := by
  obtain ⟨-, e⟩ | ⟨-, -, -, e⟩ | ⟨-, -, e⟩ := counterStep_cases ref linkable src sh f s <;> rw [e]
  · exact hset _ _ h
  · exact consumeTicks_keeps hset hf _ _ (hlink _ _ h)
  · exact consumeTicks_keeps hset hf _ _ (hset _ _ h)

end keeps

/-- `Predict` changes `next_event` alone (R76). -/
theorem predict_changes (ref : CounterRef) (sh : Nat) (s : State) :
    ∃ t, predict ref sh s = { s with nextEvent := t } := by
  unfold predict State.publish
  split
  · split
    · exact ⟨_, rfl⟩
    · exact ⟨s.nextEvent, rfl⟩
  · exact ⟨s.nextEvent, rfl⟩

/-- The rebase shifts every counter's stamp and nothing else of it (R69). -/
@[simp] theorem counter_rebase (s : State) (ref : CounterRef) :
    (rebase s).counter ref = (s.counter ref).rebase s.params.rebaseDelta := by
  cases ref <;> simp [rebase, State.counter, State.timer, State.channel]

end Sys2Proof.Machine
end

