-- ==== Sys2Proof/Laws/Audio.lean ====
section
/-! SUPPORT. What the mixer and the channel's underflow change and keep (42_audio.md R102 to R104). -/

namespace Sys2Proof.Machine

/-- The sums depend on the channels' outputs and the three mixing registers alone. -/
theorem State.sums_congr {s t : State} (ho : ∀ c, (t.channel c).output = (s.channel c).output)
    (hs : t.mixer.stereoEnable = s.mixer.stereoEnable) (hp : t.mixer.pan = s.mixer.pan)
    (ha : t.mixer.atten = s.mixer.atten) : t.leftSum = s.leftSum ∧ t.rightSum = s.rightSum := by
  have hat : ∀ c, t.attenuation c = s.attenuation c := fun c => by simp [State.attenuation, ha]
  simp [State.leftSum, State.rightSum, State.leftTerm, State.rightTerm, ho, hs, hp, hat]

/-- `Mix` writes the remembered sums and the output trace alone (R104). -/
theorem mix_changes (s : State) :
    ∃ e, mix s = { s with
      mixer := { s.mixer with lastLeft := s.leftSum, lastRight := s.rightSum }
      events := s.events ++ e } := by
  have hr : ∀ t : State, t.leftSum = s.leftSum → t.rightSum = s.rightSum →
      t = { s with events := t.events, mixer := { s.mixer with lastLeft := t.mixer.lastLeft } } →
      t.mixer.lastLeft = s.leftSum → ∃ e, mixRight t = { s with
        mixer := { s.mixer with lastLeft := s.leftSum, lastRight := s.rightSum }
        events := t.events ++ e } := by
    intro t h1 h2 h3 h4
    unfold mixRight
    split
    · refine ⟨[.audioDelta .right t.mixTime (t.rightSum - t.mixer.lastRight)], ?_⟩
      rw [h2, ← h4]; rw [h3]; rfl
    · next hne =>
      have e : t.mixer.lastRight = s.rightSum := by rw [← h2]; exact (not_not.mp hne).symm
      refine ⟨[], ?_⟩
      have e' : s.mixer.lastRight = s.rightSum := by rw [← e, h3]
      rw [List.append_nil, ← h4, ← e']
      exact h3
  unfold mix mixLeft
  split
  · obtain ⟨e, h⟩ := hr { s.emit (.audioDelta .left s.mixTime (s.leftSum - s.mixer.lastLeft)) with
      mixer := { s.mixer with lastLeft := s.leftSum } }
      (State.sums_congr (fun _ => rfl) rfl rfl rfl).1 (State.sums_congr (fun _ => rfl) rfl rfl rfl).2 rfl rfl
    exact ⟨[.audioDelta .left s.mixTime (s.leftSum - s.mixer.lastLeft)] ++ e, by rw [h]; simp⟩
  · next hne => exact hr s rfl rfl rfl (not_not.mp hne).symm

/-- After a mix the mixer remembers the sums as they stand. -/
theorem mix_current (s : State) : MixerCurrent (mix s) := by
  obtain ⟨e, h⟩ := mix_changes s
  rw [h]
  exact ⟨(State.sums_congr (fun _ => rfl) rfl rfl rfl).1.symm, (State.sums_congr (fun _ => rfl) rfl rfl rfl).2.symm⟩

@[simp] theorem counter_mix (s : State) (ref : CounterRef) : (mix s).counter ref = s.counter ref := by
  obtain ⟨e, h⟩ := mix_changes s
  rw [h]; cases ref <;> rfl

@[simp] theorem ctr_updateOutput (a : AudioChannel) : a.updateOutput.ctr = a.ctr := by
  unfold AudioChannel.updateOutput; dsimp only; split <;> rfl

@[simp] theorem ctr_stepLfsr (a : AudioChannel) (p : Params) : (a.stepLfsr p).ctr = a.ctr := by
  unfold AudioChannel.stepLfsr; split <;> rfl

/-- The channel's underflow writes no counter (R102). -/
@[simp] theorem counter_audioUnderflow (c : Fin 4) (s : State) (ref : CounterRef) :
    (audioUnderflow c s).counter ref = s.counter ref := by
  unfold audioUnderflow
  rw [counter_mix]
  cases ref with
  | timer n => rfl
  | audio d =>
    by_cases h : d = c
    · subst h; simp [State.counter]
    · simp [State.counter, State.channel_setChannel_ne _ _ h]

/-- The channel's underflow writes the audio channels, the remembered sums and the output trace alone. -/
theorem audioUnderflow_changes (c : Fin 4) (s : State) :
    ∃ e, audioUnderflow c s = { s with
      audio := (audioUnderflow c s).audio
      mixer := (audioUnderflow c s).mixer
      events := s.events ++ e } := by
  obtain ⟨e, h⟩ := mix_changes (s.setChannel c ((s.channel c).stepLfsr s.params).updateOutput)
  exact ⟨e, by unfold audioUnderflow; rw [h]; rfl⟩

/-- Counter writes keep the mixer current. -/
theorem MixerCurrent.setCounter {s : State} (h : MixerCurrent s) (ref : CounterRef) (x : Counter) :
    MixerCurrent (s.setCounter ref x) := by
  obtain ⟨hl, hr⟩ := h
  have k := State.sums_congr (s := s) (t := s.setCounter ref x)
    (fun c => (State.channel_setCounter s ref x c).1) (by simp) (by simp) (by simp)
  exact ⟨by rw [k.1]; simpa using hl, by rw [k.2]; simpa using hr⟩

end Sys2Proof.Machine
end

