-- ==== Sys2Proof/Laws/Decode.lean ====
section
/-! SUPPORT. The fields of a command word put together from its fields (30_encoding.md R50). -/

namespace Sys2Proof

@[simp] theorem mkWord_cls (cls : BitVec 4) (a d : Byte) : CmdWord.cls (mkWord cls a d) = cls := by
  change BitVec.extractLsb' 16 4 (cls ++ a ++ d : BitVec (4 + 8 + 8)) = cls
  ext i hi
  simp only [BitVec.getElem_extractLsb', BitVec.getLsbD_append]
  simp [show ¬ 16 + i < 8 by omega, show ¬ 16 + i - 8 < 8 by omega, show 16 + i - 8 - 8 = i by omega,
    BitVec.getLsbD_eq_getElem hi]

@[simp] theorem mkWord_a (cls : BitVec 4) (a d : Byte) : CmdWord.a (mkWord cls a d) = a := by
  change BitVec.extractLsb' 8 8 (cls ++ a ++ d : BitVec (4 + 8 + 8)) = a
  ext i hi
  simp only [BitVec.getElem_extractLsb', BitVec.getLsbD_append]
  simp [hi, show ¬ 8 + i < 8 by omega]

@[simp] theorem mkWord_d (cls : BitVec 4) (a d : Byte) : CmdWord.d (mkWord cls a d) = d := by
  change BitVec.extractLsb' 0 8 (cls ++ a ++ d : BitVec (4 + 8 + 8)) = d
  ext i hi
  simp only [BitVec.getElem_extractLsb', BitVec.getLsbD_append]
  simp [hi]

end Sys2Proof
end

