-- ==== Sys2Proof/Laws/Memory.lean ====
section
/-! SUPPORT. Sorted cells, system memory and the surface: what a read returns after a write, and that
every operation keeps the canonical form. -/

namespace Sys2Proof.Machine

variable {α : Type}

theorem cellGet_put_same (k : Nat) (v : α) (l : List (Nat × α)) : cellGet k (cellPut k v l) = some v := by
  induction l with
  | nil => simp [cellPut, cellGet]
  | cons c l ih =>
    simp only [cellPut]
    split
    · simp [cellGet]
    · split
      · simp [cellGet]
      · next h => simp [cellGet, h, ih]

theorem cellGet_put_other {k k' : Nat} (h : k' ≠ k) (v : α) (l : List (Nat × α)) :
    cellGet k' (cellPut k v l) = cellGet k' l := by
  induction l with
  | nil => simp [cellPut, cellGet, h]
  | cons c l ih =>
    simp only [cellPut]
    split
    · simp [cellGet, h]
    · split
      · next e => subst e; simp [cellGet, h]
      · simp only [cellGet, ih]

/-- A key at or below the list's lower bound has no entry. -/
theorem cellGet_of_risingAbove {b k : Nat} {l : List (Nat × α)} (h : risingAbove b l = true) (hk : k ≤ b) :
    cellGet k l = none := by
  induction l generalizing b with
  | nil => rfl
  | cons c l ih =>
    simp only [risingAbove, Bool.and_eq_true, decide_eq_true_eq] at h
    have : k ≠ c.1 := by omega
    simp [cellGet, this, ih h.2 (by omega)]

theorem rising_of_risingAbove {b : Nat} {l : List (Nat × α)} (h : risingAbove b l = true) : rising l = true := by
  cases l with
  | nil => rfl
  | cons c l => simp_all [risingAbove, rising]

theorem risingAbove_mono {b b' : Nat} {l : List (Nat × α)} (h : risingAbove b l = true) (hb : b' ≤ b) :
    risingAbove b' l = true := by
  cases l with
  | nil => rfl
  | cons c l =>
    simp only [risingAbove, Bool.and_eq_true, decide_eq_true_eq] at h ⊢
    exact ⟨by omega, h.2⟩

theorem risingAbove_put {b k : Nat} (v : α) {l : List (Nat × α)} (h : risingAbove b l = true) (hk : b < k) :
    risingAbove b (cellPut k v l) = true := by
  induction l generalizing b with
  | nil => simp [cellPut, risingAbove, hk]
  | cons c l ih =>
    simp only [risingAbove, Bool.and_eq_true, decide_eq_true_eq] at h
    simp only [cellPut]
    split
    · next h1 => simp [risingAbove, hk, h1, h.2]
    · split
      · next e => subst e; simp [risingAbove, hk, h.2]
      · simp only [risingAbove, Bool.and_eq_true, decide_eq_true_eq]
        exact ⟨h.1, ih h.2 (by omega)⟩

theorem rising_put (k : Nat) (v : α) {l : List (Nat × α)} (h : rising l = true) :
    rising (cellPut k v l) = true := by
  cases l with
  | nil => simp [cellPut, rising, risingAbove]
  | cons c l =>
    simp only [rising] at h
    simp only [cellPut]
    split
    · next h1 => simp [rising, risingAbove, h1, h]
    · split
      · next e => subst e; simpa [rising] using h
      · simpa [rising] using risingAbove_put v h (by omega)

theorem risingAbove_drop {b : Nat} (k : Nat) {l : List (Nat × α)} (h : risingAbove b l = true) :
    risingAbove b (cellDrop k l) = true := by
  induction l generalizing b with
  | nil => rfl
  | cons c l ih =>
    simp only [risingAbove, Bool.and_eq_true, decide_eq_true_eq] at h
    simp only [cellDrop]
    split
    · exact risingAbove_mono h.2 (by omega)
    · simp only [risingAbove, Bool.and_eq_true, decide_eq_true_eq]
      exact ⟨h.1, ih h.2⟩

theorem rising_drop (k : Nat) {l : List (Nat × α)} (h : rising l = true) : rising (cellDrop k l) = true := by
  cases l with
  | nil => rfl
  | cons c l =>
    simp only [rising] at h
    simp only [cellDrop]
    split
    · exact rising_of_risingAbove h
    · simpa [rising] using risingAbove_drop k h

theorem cellGet_drop_same {k : Nat} {l : List (Nat × α)} (h : rising l = true) :
    cellGet k (cellDrop k l) = none := by
  induction l with
  | nil => rfl
  | cons c l ih =>
    simp only [rising] at h
    simp only [cellDrop]
    split
    · next e => exact cellGet_of_risingAbove h (by omega)
    · next e => simp [cellGet, e, ih (rising_of_risingAbove h)]

theorem cellGet_drop_other {k k' : Nat} (h : k' ≠ k) (l : List (Nat × α)) :
    cellGet k' (cellDrop k l) = cellGet k' l := by
  induction l with
  | nil => rfl
  | cons c l ih =>
    simp only [cellDrop]
    split
    · next e => subst e; simp [cellGet, h]
    · simp only [cellGet, ih]

theorem all_put {p : Nat × α → Bool} {k : Nat} {v : α} {l : List (Nat × α)} (hl : l.all p = true)
    (hp : p (k, v) = true) : (cellPut k v l).all p = true := by
  induction l with
  | nil => simp [cellPut, hp]
  | cons c l ih =>
    simp only [List.all_cons, Bool.and_eq_true] at hl
    simp only [cellPut]
    split
    · simp [hp, hl.1, hl.2]
    · split
      · simp [hp, hl.2]
      · simp [hl.1, ih hl.2]

theorem all_drop {p : Nat × α → Bool} (k : Nat) {l : List (Nat × α)} (hl : l.all p = true) :
    (cellDrop k l).all p = true := by
  induction l with
  | nil => rfl
  | cons c l ih =>
    simp only [List.all_cons, Bool.and_eq_true] at hl
    simp only [cellDrop]
    split
    · exact hl.2
    · simp [hl.1, ih hl.2]

/-! ### System memory -/

/-- A read of the byte just written. -/
theorem Memory.read_write_same {m : Memory} (h : Memory.wf m = true) (adr : BitVec 16) (b : Byte) :
    Memory.read (Memory.write m adr b) adr = b := by
  simp only [Memory.wf, Bool.and_eq_true] at h
  unfold Memory.write
  split
  · next e => simp [Memory.read, cellGet_drop_same h.1, e]
  · simp [Memory.read, cellGet_put_same]

/-- A read of any other byte. -/
theorem Memory.read_write_other (m : Memory) {adr adr' : BitVec 16} (h : adr' ≠ adr) (b : Byte) :
    Memory.read (Memory.write m adr b) adr' = Memory.read m adr' := by
  have hk : adr'.toNat ≠ adr.toNat := fun e => h (BitVec.eq_of_toNat_eq e)
  unfold Memory.write
  split
  · simp [Memory.read, cellGet_drop_other hk]
  · simp [Memory.read, cellGet_put_other hk]

/-- The one write of memory keeps the canonical form. -/
theorem Memory.wf_write {m : Memory} (h : Memory.wf m = true) (adr : BitVec 16) (b : Byte) :
    Memory.wf (Memory.write m adr b) = true := by
  simp only [Memory.wf, Bool.and_eq_true] at h ⊢
  unfold Memory.write
  split
  · exact ⟨rising_drop _ h.1, all_drop _ h.2⟩
  · next e =>
    refine ⟨rising_put _ _ h.1, all_put h.2 ?_⟩
    have := adr.isLt
    simp [e, this]

/-! ### The surface -/

/-- The pixel just written. -/
theorem Surface.read_write_same (p : Params) (f : Surface) (row col : Nat) (px : Pixel) :
    Surface.read p (Surface.write p f row col px) row col = some px := cellGet_put_same ..

/-- Any other position of the surface (columns below `LINE_PIXELS`). -/
theorem Surface.read_write_other {p : Params} (f : Surface) {row col row' col' : Nat} (px : Pixel)
    (hc : col < p.linePixels) (hc' : col' < p.linePixels) (h : row' ≠ row ∨ col' ≠ col) :
    Surface.read p (Surface.write p f row col px) row' col' = Surface.read p f row' col' := by
  refine cellGet_put_other ?_ _ _
  intro e
  have hrow : row' = row := by
    have := congrArg (· / p.linePixels) e
    simpa [surfaceKey, Nat.add_div_of_dvd_right (Nat.dvd_mul_left _ _), Nat.div_eq_of_lt hc, Nat.div_eq_of_lt hc',
      Nat.ne_of_gt (Nat.lt_of_le_of_lt (Nat.zero_le _) hc)] using this
  subst hrow
  exact h.elim (fun g => g rfl) (fun g => g (Nat.add_left_cancel e))

/-- A pixel write within the surface keeps the canonical form. -/
theorem Surface.wf_write {p : Params} {f : Surface} (h : Surface.wf p f = true) {row col : Nat} (px : Pixel)
    (hr : row < Config.lines) (hc : col < p.linePixels) :
    Surface.wf p (Surface.write p f row col px) = true := by
  simp only [Surface.wf, Bool.and_eq_true] at h ⊢
  refine ⟨rising_put _ _ h.1, all_put h.2 ?_⟩
  have := Nat.mul_le_mul_right p.linePixels (Nat.succ_le_of_lt hr)
  exact decide_eq_true (by simp only [surfaceKey, Nat.succ_mul] at *; omega)

end Sys2Proof.Machine
end

