-- ==== Sys2Proof/Laws/Display.lean ====
section
/-! SUPPORT. What the routines of the display engine change and keep (43_display.md R131 to R133). -/

namespace Sys2Proof.Machine

/-- A step that writes nothing but the interrupt status, the display, the surface and the output trace. -/
def DisplayOnly (s t : State) : Prop :=
  ∃ i d f e, t = { s with intStatus := i, display := d, surface := f, events := s.events ++ e }

theorem DisplayOnly.refl (s : State) : DisplayOnly s s :=
  ⟨s.intStatus, s.display, s.surface, [], by rw [List.append_nil]⟩

theorem DisplayOnly.trans {s t u : State} (h : DisplayOnly s t) (h' : DisplayOnly t u) : DisplayOnly s u := by
  obtain ⟨i, d, f, e, rfl⟩ := h
  obtain ⟨i', d', f', e', rfl⟩ := h'
  exact ⟨i', d', f', e ++ e', by simp⟩

theorem DisplayOnly.of_display (s : State) (d : Display) (f : Surface) :
    DisplayOnly s { s with display := d, surface := f } :=
  ⟨s.intStatus, d, f, [], by rw [List.append_nil]⟩

theorem DisplayOnly.params {s t : State} (h : DisplayOnly s t) : t.params = s.params := by
  obtain ⟨i, d, f, e, rfl⟩ := h; rfl

theorem raiseIfEnabled_only (s : State) (k : Nat) : DisplayOnly s (s.raiseIfEnabled k) := by
  unfold State.raiseIfEnabled
  split
  · exact ⟨_, s.display, s.surface, [], by rw [List.append_nil]; rfl⟩
  · exact DisplayOnly.refl s

theorem copyBytes_only (n j : Nat) (s : State) : DisplayOnly s (copyBytes n j s) := by
  induction n generalizing j s with
  | zero => exact DisplayOnly.refl s
  | succ n ih => exact (DisplayOnly.of_display s _ _).trans (ih (j + 1) _)

theorem drawLine_only (s : State) : DisplayOnly s (drawLine s) := by
  unfold drawLine
  split
  · dsimp only
    split
    · exact (DisplayOnly.of_display s _ s.surface).trans ⟨s.intStatus, _, s.surface, [_], rfl⟩
    · split
      · exact (DisplayOnly.of_display s _ s.surface).trans (DisplayOnly.of_display _ _ s.surface)
      · exact ((DisplayOnly.of_display s _ s.surface).trans (copyBytes_only _ _ _)).trans
          (DisplayOnly.of_display _ _ _)
  · exact DisplayOnly.refl s

theorem latchRest_only (s : State) : DisplayOnly s (latchRest s) := DisplayOnly.of_display s _ s.surface

theorem armBurst_only (s : State) : DisplayOnly s (armBurst s) := by
  unfold armBurst
  split
  · exact DisplayOnly.of_display s _ s.surface
  · exact DisplayOnly.refl s

theorem countLine_only (s : State) : DisplayOnly s (countLine s) := by
  unfold countLine
  split
  · exact DisplayOnly.of_display s _ s.surface
  · exact DisplayOnly.refl s

/-- The line strobe writes nothing but the display engine's own state, bit 0 of the interrupt status, the
surface and the output trace (R131). -/
theorem renderLine_only (s : State) : DisplayOnly s (renderLine s) := by
  unfold renderLine
  split
  · exact (raiseIfEnabled_only s 0).trans ((latchRest_only _).trans ((armBurst_only _).trans
      ((countLine_only _).trans (drawLine_only _))))
  · exact DisplayOnly.refl s

/-- The frame strobe likewise (R133). -/
theorem endOfFrame_only (s : State) : DisplayOnly s (endOfFrame s) :=
  ((DisplayOnly.of_display s _ s.surface).trans (raiseIfEnabled_only _ 2)).trans (DisplayOnly.of_display _ _ _)

/-- What a display routine keeps in range. -/
theorem copyBytes_display (n j : Nat) (s : State) :
    (copyBytes n j s).display = { s.display with dmaAddr := (copyBytes n j s).display.dmaAddr } := by
  induction n generalizing j s with
  | zero => rfl
  | succ n ih => rw [copyBytes, ih]; rfl

/-- Copying a line within the surface keeps the surface's canonical form. -/
theorem copyBytes_surface_wf (n j : Nat) {s : State} (h : Surface.wf s.params s.surface = true)
    (hr : s.display.outLine < Config.lines) (hj : j + n ≤ s.params.lineBytes) :
    Surface.wf s.params (copyBytes n j s).surface = true := by
  induction n generalizing j s with
  | zero => exact h
  | succ n ih =>
    refine ih (j + 1) (s := copyByte j s) ?_ hr (by simp only [copyByte]; omega)
    exact Surface.wf_write (Surface.wf_write h _ hr (by simp only [Params.linePixels]; omega)) _ hr
      (by simp only [Params.linePixels]; omega)

theorem drawLine_keeps {s : State} (h : s.display.InRange) (hf : Surface.wf s.params s.surface = true) :
    (drawLine s).display.InRange ∧ Surface.wf s.params (drawLine s).surface = true := by
  obtain ⟨hb, hr⟩ := h
  unfold drawLine
  split
  · dsimp only
    split
    · exact ⟨⟨by simp only [State.emit_display]; omega, hr⟩, hf⟩
    · next hlt =>
      split
      · exact ⟨⟨by simp only [skipLine]; omega, by simp only [skipLine]; omega⟩, hf⟩
      · have hlt' : s.display.outLine < Config.lines := Nat.lt_of_not_le hlt
        simp only [copyLine]
        refine ⟨⟨?_, ?_⟩, ?_⟩
        · rw [copyBytes_display]; dsimp only; omega
        · rw [copyBytes_display]; dsimp only; omega
        · refine copyBytes_surface_wf _ _ ?_ ?_ (Nat.le_of_eq (Nat.zero_add _))
          · exact hf
          · exact hlt'
  · exact ⟨⟨hb, hr⟩, hf⟩

/-- The line strobe keeps the display's ranges and the surface's canonical form. -/
theorem renderLine_keeps {s : State} (h : s.display.InRange) (hf : Surface.wf s.params s.surface = true) :
    (renderLine s).display.InRange ∧ Surface.wf s.params (renderLine s).surface = true := by
  unfold renderLine
  split
  · have h1 : (armBurst (latchRest (s.raiseIfEnabled 0))).display.InRange ∧
        Surface.wf s.params (armBurst (latchRest (s.raiseIfEnabled 0))).surface = true := by
      unfold armBurst
      split
      · exact ⟨⟨le_refl _, by simpa [latchRest] using h.row⟩, by simpa [latchRest] using hf⟩
      · exact ⟨⟨by simpa [latchRest] using h.burst, by simpa [latchRest] using h.row⟩,
          by simpa [latchRest] using hf⟩
    have hp : (countLine (armBurst (latchRest (s.raiseIfEnabled 0)))).params = s.params :=
      ((raiseIfEnabled_only s 0).trans ((latchRest_only _).trans ((armBurst_only _).trans (countLine_only _)))).params
    generalize armBurst (latchRest (s.raiseIfEnabled 0)) = u at h1 hp
    rw [← hp] at h1 ⊢
    refine drawLine_keeps ?_ ?_
    · unfold countLine; split
      · exact ⟨h1.1.burst, h1.1.row⟩
      · exact h1.1
    · revert h1; unfold countLine; split <;> exact fun h1 => h1.2
  · exact ⟨h, hf⟩

/-- The frame strobe likewise. -/
theorem endOfFrame_keeps {s : State} (h : s.display.InRange) (hf : Surface.wf s.params s.surface = true) :
    (endOfFrame s).display.InRange ∧ Surface.wf s.params (endOfFrame s).surface = true :=
  ⟨⟨by simp [endOfFrame], by simpa [endOfFrame] using h.row⟩, by simpa [endOfFrame] using hf⟩

end Sys2Proof.Machine
end

