-- ==== Sys2Proof/Laws/Serial.lean ====
section
/-! SUPPORT. What the operations of the serial engine keep: the queue invariant of 44_uart.md R144 and the
ranges of 10_state.md R27. -/

namespace Sys2Proof.Machine

/-- One slot further on the circle. -/
theorem rxqSucc_add {p : Params} {o w : Nat} (hw : 0 < w) :
    (rxqSucc p o + (w - 1)) % p.rxqDepth = (o + w) % p.rxqDepth := by
  unfold rxqSucc
  rw [Nat.mod_add_mod]
  congr 1
  omega

/-- One slot back on the circle. -/
theorem rxqPred_add {p : Params} {o w : Nat} (ho : o < p.rxqDepth) :
    (rxqPred p o + (w + 1)) % p.rxqDepth = (o + w) % p.rxqDepth := by
  unfold rxqPred
  rw [Nat.mod_add_mod, show o + (p.rxqDepth - 1) + (w + 1) = o + w + p.rxqDepth by omega, Nat.add_mod_right]

theorem rxqSucc_lt {p : Params} {o : Nat} (ho : o < p.rxqDepth) : rxqSucc p o < p.rxqDepth :=
  Nat.mod_lt _ (by omega)

theorem rxqPred_lt {p : Params} {o : Nat} (ho : o < p.rxqDepth) : rxqPred p o < p.rxqDepth :=
  Nat.mod_lt _ (by omega)

/-- Cutting a word to its width twice is cutting it once. -/
@[simp] theorem word_word (p : Params) (w : SerialWord) : p.word (p.word w) = p.word w := by
  ext i hi
  simp only [Params.word, BitVec.getElem_setWidth, BitVec.getLsbD_setWidth]
  by_cases h : i < p.uartWordW <;> simp [h, hi]

/-- What an enqueue does beside moving an index and filling a slot (R145): the countdown is armed if the queue
was empty. -/
theorem Uart.armReceive_eq (u : Uart) (p : Params) :
    u.armReceive p =
      { u with
        rxActive := if u.rxqWaiting = 0 then true else u.rxActive
        rxCount := if u.rxqWaiting = 0 then p.uartRxPeriod else u.rxCount } := by
  unfold Uart.armReceive; split <;> simp_all

/-- Everything a loopback can do (R145). -/
theorem Uart.loopback_eq (u : Uart) (p : Params) (w : SerialWord) :
    u.loopback p w =
      if u.rxqWaiting < p.rxqDepth then
        { u with
          rxActive := if u.rxqWaiting = 0 then true else u.rxActive
          rxCount := if u.rxqWaiting = 0 then p.uartRxPeriod else u.rxCount
          rxqOut := rxqPred p u.rxqOut
          rxq := u.rxq.set (rxqPred p u.rxqOut) w
          rxqWaiting := u.rxqWaiting + 1 }
      else u := by
  unfold Uart.loopback; rw [Uart.armReceive_eq]

/-- Everything an enqueue at the tail can do (R145). -/
theorem Uart.enqueueTail_eq (u : Uart) (p : Params) (w : SerialWord) :
    u.enqueueTail p w =
      if u.rxqWaiting < p.rxqDepth then
        { u with
          rxActive := if u.rxqWaiting = 0 then true else u.rxActive
          rxCount := if u.rxqWaiting = 0 then p.uartRxPeriod else u.rxCount
          rxqIn := rxqSucc p u.rxqIn
          rxq := u.rxq.set u.rxqIn w
          rxqWaiting := u.rxqWaiting + 1 }
      else u := by
  unfold Uart.enqueueTail; rw [Uart.armReceive_eq]

/-- Everything the receive path of a tick can do (R146): nothing, count, deliver the head, or find the queue
empty. -/
theorem Uart.receiveTick_cases (u : Uart) (p : Params) :
    (u.rxActive = false ∧ u.receiveTick p = u) ∨
    (u.rxActive = true ∧ u.rxCount ≠ 0 ∧ u.receiveTick p = { u with rxCount := u.rxCount - 1 }) ∨
    (u.rxActive = true ∧ u.rxCount = 0 ∧ 0 < u.rxqWaiting ∧
      u.receiveTick p =
        { u with
          rxOverrun := u.rxOverrun || u.rxReady
          rxData := u.slot u.rxqOut
          rxqOut := rxqSucc p u.rxqOut
          rxqWaiting := u.rxqWaiting - 1
          rxReady := true
          rxCount := if 1 < u.rxqWaiting then p.uartRxPeriod + p.uartRxNextDelay else 0
          rxActive := decide (1 < u.rxqWaiting) }) ∨
    (u.rxActive = true ∧ u.rxCount = 0 ∧ u.rxqWaiting = 0 ∧ u.receiveTick p = { u with rxActive := false }) := by
  by_cases ha : u.rxActive = true
  · by_cases hc : u.rxCount = 0
    · by_cases hw : 0 < u.rxqWaiting
      · refine .inr (.inr (.inl ⟨ha, hc, hw, ?_⟩))
        by_cases h1 : 1 < u.rxqWaiting
        · have : 0 < u.rxqWaiting - 1 := by omega
          simp [Uart.receiveTick, Uart.deliver, Uart.rearmReceive, ha, hc, hw, h1, this]
        · have : ¬ 0 < u.rxqWaiting - 1 := by omega
          simp [Uart.receiveTick, Uart.deliver, Uart.rearmReceive, ha, hc, hw, h1]
      · exact .inr (.inr (.inr ⟨ha, hc, by omega, by simp [Uart.receiveTick, Uart.deliver, Uart.rearmReceive, ha, hc, hw]⟩))
    · exact .inr (.inl ⟨ha, hc, by simp [Uart.receiveTick, ha, hc]⟩)
  · exact .inl ⟨by simpa using ha, by simp [Uart.receiveTick, ha]⟩

/-- Receive active iff a word waits is what an enqueue re-establishes (R144, R145). -/
theorem Uart.loopback_queueOk {u : Uart} {p : Params} (h : u.QueueOk p) (w : SerialWord) :
    (u.loopback p w).QueueOk p := by
  rw [Uart.loopback_eq]
  split
  · next hlt =>
    refine ⟨by simpa using h.slots, h.inIndex, rxqPred_lt h.outIndex, ?_, by simp only; omega, ?_⟩
    · simp only [rxqPred_add h.outIndex]; exact h.tail
    · have := h.active; simp only; (split <;> simp_all); omega
  · exact h

theorem Uart.enqueueTail_queueOk {u : Uart} {p : Params} (h : u.QueueOk p) (w : SerialWord) :
    (u.enqueueTail p w).QueueOk p := by
  rw [Uart.enqueueTail_eq]
  split
  · next hlt =>
    refine ⟨by simpa using h.slots, rxqSucc_lt h.inIndex, h.outIndex, ?_, by simp only; omega, ?_⟩
    · simp only [rxqSucc]; rw [h.tail, Nat.mod_add_mod]; rfl
    · have := h.active; simp only; (split <;> simp_all); omega
  · exact h

theorem Uart.receiveTick_queueOk {u : Uart} {p : Params} (h : u.QueueOk p) : (u.receiveTick p).QueueOk p := by
  obtain ⟨-, e⟩ | ⟨ha, -, e⟩ | ⟨ha, -, hw, e⟩ | ⟨ha, -, hw, e⟩ := u.receiveTick_cases p <;> rw [e]
  · exact h
  · exact ⟨h.slots, h.inIndex, h.outIndex, h.tail, h.room, h.active⟩
  · refine ⟨h.slots, h.inIndex, rxqSucc_lt h.outIndex, ?_, ?_, ?_⟩
    · simp only [rxqSucc_add hw]; exact h.tail
    · have := h.room; simp only; omega
    · simp only [decide_eq_true_eq]; omega
  · have := h.active.1 ha; omega

theorem Uart.loopback_inRange {u : Uart} {p : Params} (h : u.InRange p) (w : SerialWord) :
    (u.loopback p w).InRange p := by
  rw [Uart.loopback_eq]
  split
  · refine ⟨h.tx, ?_, h.framing⟩
    have := h.rx
    simp only
    split <;> omega
  · exact h

theorem Uart.enqueueTail_inRange {u : Uart} {p : Params} (h : u.InRange p) (w : SerialWord) :
    (u.enqueueTail p w).InRange p := by
  rw [Uart.enqueueTail_eq]
  split
  · refine ⟨h.tx, ?_, h.framing⟩
    have := h.rx
    simp only
    split <;> omega
  · exact h

theorem Uart.receiveTick_inRange {u : Uart} {p : Params} (h : u.InRange p) : (u.receiveTick p).InRange p := by
  obtain ⟨-, e⟩ | ⟨-, -, e⟩ | ⟨-, -, -, e⟩ | ⟨-, -, -, e⟩ := u.receiveTick_cases p <;> rw [e]
  · exact h
  · exact ⟨h.tx, by have := h.rx; simp only; omega, h.framing⟩
  · exact ⟨h.tx, by simp only; split <;> omega, h.framing⟩
  · exact ⟨h.tx, h.rx, h.framing⟩

theorem Uart.loopback_wordsFit {u : Uart} {p : Params} (h : u.WordsFit p) {w : SerialWord} (hw : p.word w = w) :
    (u.loopback p w).WordsFit p := by
  rw [Uart.loopback_eq]
  split
  · exact ⟨fun x hx => (List.mem_or_eq_of_mem_set hx).elim (h.queued x) (fun e => e ▸ hw), h.transmit, h.receive⟩
  · exact h

theorem Uart.enqueueTail_wordsFit {u : Uart} {p : Params} (h : u.WordsFit p) {w : SerialWord} (hw : p.word w = w) :
    (u.enqueueTail p w).WordsFit p := by
  rw [Uart.enqueueTail_eq]
  split
  · exact ⟨fun x hx => (List.mem_or_eq_of_mem_set hx).elim (h.queued x) (fun e => e ▸ hw), h.transmit, h.receive⟩
  · exact h

/-- A slot holds a word of the queue or reads 0. -/
theorem Uart.slot_fits {u : Uart} {p : Params} (h : u.WordsFit p) (k : Nat) : p.word (u.slot k) = u.slot k := by
  unfold Uart.slot
  by_cases hk : k < u.rxq.length
  · rw [List.getD_eq_getElem _ _ hk]; exact h.queued _ (List.getElem_mem hk)
  · rw [List.getD_eq_default _ _ (Nat.le_of_not_lt hk)]; simp [Params.word]

theorem Uart.receiveTick_wordsFit {u : Uart} {p : Params} (h : u.WordsFit p) : (u.receiveTick p).WordsFit p := by
  obtain ⟨-, e⟩ | ⟨-, -, e⟩ | ⟨-, -, -, e⟩ | ⟨-, -, -, e⟩ := u.receiveTick_cases p <;> rw [e]
  · exact h
  · exact ⟨h.queued, h.transmit, h.receive⟩
  · exact ⟨h.queued, h.transmit, Uart.slot_fits h _⟩
  · exact ⟨h.queued, h.transmit, h.receive⟩

/-- `UartTick` changes the UART and the output trace alone (R146). -/
theorem uartTick_changes (s : State) :
    ∃ e, uartTick s = { s with uart := (uartTick s).uart, events := s.events ++ e } := by
  unfold uartTick transmitTick
  dsimp only
  split
  · split
    · split
      · exact ⟨[_], rfl⟩
      · exact ⟨[], by rw [List.append_nil]⟩
    · exact ⟨[], by rw [List.append_nil]⟩
  · exact ⟨[], by rw [List.append_nil]⟩

/-- What the serial engine's operations keep together: the queue, the ranges and the widths. -/
structure Uart.Ok (u : Uart) (p : Params) : Prop where
  queue : u.QueueOk p
  range : u.InRange p
  words : u.WordsFit p

theorem Uart.loopback_ok {u : Uart} {p : Params} (h : u.Ok p) {w : SerialWord} (hw : p.word w = w) :
    (u.loopback p w).Ok p :=
  ⟨Uart.loopback_queueOk h.queue w, Uart.loopback_inRange h.range w, Uart.loopback_wordsFit h.words hw⟩

theorem Uart.receiveTick_ok {u : Uart} {p : Params} (h : u.Ok p) : (u.receiveTick p).Ok p :=
  ⟨Uart.receiveTick_queueOk h.queue, Uart.receiveTick_inRange h.range, Uart.receiveTick_wordsFit h.words⟩

theorem Uart.completeTransmit_ok {u : Uart} {p : Params} (h : u.Ok p) : (u.completeTransmit p).Ok p := by
  obtain ⟨⟨q1, q2, q3, q4, q5, q6⟩, ⟨r1, r2, r3⟩, ⟨w1, w2, w3⟩⟩ := h
  unfold Uart.completeTransmit
  split
  · exact Uart.loopback_ok (u := { u with txData := p.breakWord, txCount := p.uartTxPeriod })
      ⟨⟨q1, q2, q3, q4, q5, q6⟩, ⟨le_refl _, r2, r3⟩, ⟨w1, word_word p _, w3⟩⟩ (word_word p _)
  · exact ⟨⟨q1, q2, q3, q4, q5, q6⟩, ⟨r1, r2, r3⟩, ⟨w1, w2, w3⟩⟩

/-- `UartTick` keeps the queue invariant, the ranges and the widths. -/
theorem uartTick_uart {s : State} (h : s.uart.Ok s.params) : (uartTick s).uart.Ok s.params := by
  have h1 := Uart.receiveTick_ok h
  unfold uartTick transmitTick
  dsimp only
  generalize s.uart.receiveTick s.params = u at h1
  split
  · split
    · have key := Uart.completeTransmit_ok h1
      split <;> exact key
    · obtain ⟨q, r, w⟩ := h1
      exact ⟨⟨q.slots, q.inIndex, q.outIndex, q.tail, q.room, q.active⟩,
        ⟨by have := r.tx; simp only; omega, r.rx, r.framing⟩, ⟨w.queued, w.transmit, w.receive⟩⟩
  · exact h1

end Sys2Proof.Machine
end

