-- ==== Sys2Proof/Laws/Update.lean ====
section
/-! SUPPORT. The Update pass as a composition: a property kept by each of the writes a pass is made of is
kept by the pass (40_update_dispatcher.md R67). -/

namespace Sys2Proof.Machine

/-- What a property must survive to pass through an Update pass. -/
structure PassKeeps (P : State → Prop) : Prop where
  setCounter : ∀ s ref x, P s → P (s.setCounter ref x)
  setLinkCarry : ∀ s ref b, P s → P (s.setLinkCarry ref b)
  nextEvent : ∀ s t, P s → P { s with nextEvent := t }
  rebase : ∀ s, P s → P (rebase s)
  raiseInt : ∀ s k, P s → P (s.raiseInt k)
  renderLine : ∀ s, P s → P (renderLine s)
  endOfFrame : ∀ s, P s → P (endOfFrame s)
  uartTick : ∀ s, P s → P (uartTick s)
  audioUnderflow : ∀ s c, P s → P (audioUnderflow c s)

variable {P : State → Prop}

theorem PassKeeps.predict (h : PassKeeps P) {s : State} (hs : P s) (ref : CounterRef) (sh : Nat) :
    P (Machine.predict ref sh s) := by
  obtain ⟨t, e⟩ := predict_changes ref sh s
  rw [e]; exact h.nextEvent _ _ hs

theorem PassKeeps.raiseIfEnabled (h : PassKeeps P) (k : Nat) (s : State) (hs : P s) : P (s.raiseIfEnabled k) := by
  unfold State.raiseIfEnabled
  split
  · exact h.raiseInt _ _ hs
  · exact hs

theorem PassKeeps.counterStep (h : PassKeeps P) {f : State → State} (hf : ∀ s, P s → P (f s)) (ref : CounterRef)
    (linkable src : Bool) (sh : Nat) {s : State} (hs : P s) : P (Machine.counterStep ref linkable src sh f s) :=
  counterStep_keeps (fun s x => h.setCounter s ref x) (fun s b => h.setLinkCarry s ref b) hf _ _ _ hs

theorem PassKeeps.stepTimer0 (h : PassKeeps P) {s : State} (hs : P s) : P (Machine.stepTimer0 s) := by
  unfold Machine.stepTimer0
  dsimp only
  split
  · exact consumeTicks_keeps (fun s x => h.setCounter s _ x) h.renderLine _ _ (h.setCounter _ _ _ hs)
  · exact h.setCounter _ _ _ hs

/-- The principle: each write of a pass keeps `P`, so the pass does. -/
theorem PassKeeps.updatePass (h : PassKeeps P) {s : State} (hs : P s) : P (Machine.updatePass s) := by
  have hb : P (beginPass s) := by
    unfold beginPass
    dsimp only
    split
    · exact h.nextEvent _ _ (h.rebase _ hs)
    · exact h.nextEvent _ _ hs
  have hA : P (passGroupA (beginPass s)) := by
    have h2 : ∀ t, P t → P (stepTimer2 t) := fun t ht => h.counterStep h.endOfFrame _ _ _ _ ht
    have h4 : ∀ t, P t → P (stepTimer4 t) := fun t ht => h.counterStep h.uartTick _ _ _ _ ht
    have h3 := h.predict (h4 _ (h.predict (h2 _ (h.predict (h.stepTimer0 hb) (.timer 0) Config.baseShift))
      (.timer 2) Config.baseShift)) (.timer 4) (Config.baseShift + Config.t4ExtraShift)
    unfold passGroupA serialLevelAssert
    dsimp only
    split
    · exact h.raiseInt _ _ h3
    · exact h3
  have hB : P (passGroupB (passGroupA (beginPass s))) := by
    unfold passGroupB stepTimer1 stepTimer3 stepTimer5 stepTimer7
    dsimp only
    exact h.predict (h.counterStep (h.raiseIfEnabled 7) _ _ _ _ (h.predict (h.counterStep (h.raiseIfEnabled 5) _ _ _ _
      (h.predict (h.counterStep (h.raiseIfEnabled 3) _ _ _ _ (h.predict (h.counterStep (h.raiseIfEnabled 1) _ _ _ _
        hA) _ _)) _ _)) _ _)) _ _
  have hch : ∀ c s, P s → P (passChannel c s) := fun c s hs =>
    h.predict (h.counterStep (fun s hs => h.audioUnderflow s c hs) _ _ _ _ hs) _ _
  unfold Machine.updatePass passTimer6 stepTimer6 passAudio
  exact h.predict (h.counterStep (h.raiseIfEnabled 6) _ _ _ _
    (hch 3 _ (hch 2 _ (hch 1 _ (hch 0 _ hB))))) _ _

/-- What an Update pass leaves alone (R67): the parameters, system memory, the interrupt mask, the I/O latches, `halt` and
the host's side. -/
theorem updatePass_frame (s : State) :
    (updatePass s).params = s.params ∧ (updatePass s).mem = s.mem ∧ (updatePass s).intMask = s.intMask ∧ (updatePass s).iodir = s.iodir ∧
      (updatePass s).iodat = s.iodat ∧ (updatePass s).halt = s.halt ∧ (updatePass s).pending = s.pending ∧
      (updatePass s).result = s.result := by
  refine PassKeeps.updatePass (P := fun t => t.params = s.params ∧ t.mem = s.mem ∧ t.intMask = s.intMask ∧ t.iodir = s.iodir ∧
    t.iodat = s.iodat ∧ t.halt = s.halt ∧ t.pending = s.pending ∧ t.result = s.result) ?_
    ⟨rfl, rfl, rfl, rfl, rfl, rfl, rfl, rfl⟩
  constructor
  · intro t ref x h; simpa using h
  · intro t ref b h; simpa using h
  · intro t n h; exact h
  · intro t h; exact h
  · intro t k h; exact h
  · intro t h; obtain ⟨i, d, f, e, hc⟩ := renderLine_only t; rw [hc]; exact h
  · intro t h; obtain ⟨i, d, f, e, hc⟩ := endOfFrame_only t; rw [hc]; exact h
  · intro t h; obtain ⟨e, hc⟩ := uartTick_changes t; rw [hc]; exact h
  · intro t c h; obtain ⟨e, hc⟩ := audioUnderflow_changes c t; rw [hc]; exact h

end Sys2Proof.Machine
end

