-- ==== Sys2Proof/Laws/Pass.lean ====
section
/-! SUPPORT. What an Update pass does to each of the twelve counters, as a function of the counter alone, its
link source's borrow and the cycle (40_update_dispatcher.md R70, R71; 41_timers.md R82 to R91; 42_audio.md R102). -/

namespace Sys2Proof.Machine

/-- A counter after `ticks` ticks. -/
def Counter.consumed (x : Counter) (ticks : Stamp) (reload : Counter → Counter) : Counter :=
  if ticks = 0#32 then x.idle
  else if (x.tick ticks).current < 0 then reload { x.tick ticks with borrowOut := true }
  else { x.tick ticks with borrowOut := false }

/-- A counter after its generic step. -/
def Counter.stepped (x : Counter) (linkable src : Bool) (cycle : Stamp) (sh : Nat) : Counter :=
  if x.counting then
    if linkable && x.linking == Config.linkSel then x.consumed (if src then 1 else 0) Counter.reloadOrClamp
    else (x.sync (x.elapsedTicks cycle sh) sh).consumed (x.elapsedTicks cycle sh) Counter.reloadOrClamp
  else x.idle

/-- Timer 0's counter after its step. -/
def Counter.stepped0 (x : Counter) (cycle : Stamp) : Counter :=
  if x.enableCount then
    (x.sync (x.elapsedTicks cycle Config.baseShift) Config.baseShift).consumed
      (x.elapsedTicks cycle Config.baseShift) Counter.reloadAlways
  else x.idle

/-- An action that leaves every counter and `cycle` alone. -/
structure CounterBlind (f : State → State) : Prop where
  counter : ∀ s ref, (f s).counter ref = s.counter ref
  cycle : ∀ s, (f s).cycle = s.cycle

theorem counterBlind_raiseIfEnabled (k : Nat) : CounterBlind (fun s => s.raiseIfEnabled k) := by
  constructor
  · intro s ref; unfold State.raiseIfEnabled; split <;> cases ref <;> rfl
  · intro s; unfold State.raiseIfEnabled; split <;> rfl

theorem counterBlind_renderLine : CounterBlind renderLine := by
  constructor
  · intro s ref; obtain ⟨i, d, f, e, h⟩ := renderLine_only s; rw [h]; cases ref <;> rfl
  · intro s; obtain ⟨i, d, f, e, h⟩ := renderLine_only s; rw [h]

theorem counterBlind_endOfFrame : CounterBlind endOfFrame := by
  constructor
  · intro s ref; obtain ⟨i, d, f, e, h⟩ := endOfFrame_only s; rw [h]; cases ref <;> rfl
  · intro s; obtain ⟨i, d, f, e, h⟩ := endOfFrame_only s; rw [h]

theorem counterBlind_uartTick : CounterBlind uartTick := by
  constructor
  · intro s ref; obtain ⟨e, h⟩ := uartTick_changes s; rw [h]; cases ref <;> rfl
  · intro s; obtain ⟨e, h⟩ := uartTick_changes s; rw [h]

theorem counterBlind_audioUnderflow (c : Fin 4) : CounterBlind (audioUnderflow c) := by
  constructor
  · intro s ref; exact counter_audioUnderflow c s ref
  · intro s; obtain ⟨e, h⟩ := audioUnderflow_changes c s; rw [h]

@[simp] theorem counter_serialLevelAssert (s : State) (ref : CounterRef) :
    (serialLevelAssert s).counter ref = s.counter ref := by
  unfold serialLevelAssert; split <;> cases ref <;> rfl

@[simp] theorem cycle_serialLevelAssert (s : State) : (serialLevelAssert s).cycle = s.cycle := by
  unfold serialLevelAssert; split <;> rfl

@[simp] theorem counter_predict (r : CounterRef) (sh : Nat) (s : State) (ref : CounterRef) :
    (predict r sh s).counter ref = s.counter ref := by
  obtain ⟨t, h⟩ := predict_changes r sh s; rw [h]; cases ref <;> rfl

@[simp] theorem cycle_predict (r : CounterRef) (sh : Nat) (s : State) : (predict r sh s).cycle = s.cycle := by
  obtain ⟨t, h⟩ := predict_changes r sh s; rw [h]

section step

variable {f : State → State}

theorem counter_consumeTicks_self (hf : CounterBlind f) (ref : CounterRef) (ticks : Stamp) (reload : Counter → Counter)
    (s : State) : (consumeTicks ref ticks reload f s).counter ref = (s.counter ref).consumed ticks reload := by
  unfold consumeTicks Counter.consumed
  dsimp only
  split
  · simp
  · split <;> simp [hf.counter]

theorem counter_consumeTicks_ne (hf : CounterBlind f) {ref r : CounterRef} (h : r ≠ ref) (ticks : Stamp)
    (reload : Counter → Counter) (s : State) : (consumeTicks ref ticks reload f s).counter r = s.counter r := by
  unfold consumeTicks
  dsimp only
  split
  · rw [State.counter_setCounter_ne _ _ h]
  · split
    · rw [State.counter_setCounter_ne _ _ h, hf.counter, State.counter_setCounter_ne _ _ h]
    · rw [State.counter_setCounter_ne _ _ h]

theorem cycle_consumeTicks (hf : CounterBlind f) (ref : CounterRef) (ticks : Stamp) (reload : Counter → Counter)
    (s : State) : (consumeTicks ref ticks reload f s).cycle = s.cycle := by
  unfold consumeTicks
  dsimp only
  split
  · simp
  · split <;> simp [hf.cycle]

/-- Everything a generic step does to its own counter. -/
theorem counter_counterStep_self (hf : CounterBlind f) (ref : CounterRef) (linkable src : Bool) (sh : Nat) (s : State) :
    (counterStep ref linkable src sh f s).counter ref = (s.counter ref).stepped linkable src s.cycle sh := by
  unfold counterStep Counter.stepped
  dsimp only
  split
  · split
    · rw [counter_consumeTicks_self hf]; simp
    · rw [counter_consumeTicks_self hf]; simp
  · simp

/-- A generic step leaves every other counter alone. -/
theorem counter_counterStep_ne (hf : CounterBlind f) {ref r : CounterRef} (h : r ≠ ref) (linkable src : Bool) (sh : Nat)
    (s : State) : (counterStep ref linkable src sh f s).counter r = s.counter r := by
  unfold counterStep
  dsimp only
  split
  · split
    · rw [counter_consumeTicks_ne hf h]; simp
    · rw [counter_consumeTicks_ne hf h, State.counter_setCounter_ne _ _ h]
  · rw [State.counter_setCounter_ne _ _ h]

theorem cycle_counterStep (hf : CounterBlind f) (ref : CounterRef) (linkable src : Bool) (sh : Nat) (s : State) :
    (counterStep ref linkable src sh f s).cycle = s.cycle := by
  unfold counterStep
  dsimp only
  split
  · split <;> rw [cycle_consumeTicks hf] <;> simp
  · simp

end step

/-! ### The twelve steps -/

theorem counter_stepTimer0_self (s : State) :
    (stepTimer0 s).counter (.timer 0) = (s.counter (.timer 0)).stepped0 s.cycle := by
  unfold stepTimer0 Counter.stepped0
  dsimp only
  split
  · rw [counter_consumeTicks_self counterBlind_renderLine]; simp
  · simp

theorem counter_stepTimer0_ne {r : CounterRef} (h : r ≠ .timer 0) (s : State) :
    (stepTimer0 s).counter r = s.counter r := by
  unfold stepTimer0
  dsimp only
  split
  · rw [counter_consumeTicks_ne counterBlind_renderLine h, State.counter_setCounter_ne _ _ h]
  · rw [State.counter_setCounter_ne _ _ h]

@[simp] theorem cycle_stepTimer0 (s : State) : (stepTimer0 s).cycle = s.cycle := by
  unfold stepTimer0
  dsimp only
  split
  · rw [cycle_consumeTicks counterBlind_renderLine]; simp
  · simp

theorem counter_stepTimer1_self (s : State) :
    (stepTimer1 s).counter (.timer 1) = (s.counter (.timer 1)).stepped true false s.cycle
      Config.baseShift :=
  counter_counterStep_self (counterBlind_raiseIfEnabled 1) _ _ _ _ s

theorem counter_stepTimer1_ne {r : CounterRef} (h : r ≠ .timer 1) (s : State) :
    (stepTimer1 s).counter r = s.counter r :=
  counter_counterStep_ne (counterBlind_raiseIfEnabled 1) h _ _ _ s

@[simp] theorem cycle_stepTimer1 (s : State) : (stepTimer1 s).cycle = s.cycle :=
  cycle_counterStep (counterBlind_raiseIfEnabled 1) _ _ _ _ s

theorem counter_stepTimer2_self (s : State) :
    (stepTimer2 s).counter (.timer 2) = (s.counter (.timer 2)).stepped true (s.timerBorrow 0) s.cycle
      Config.baseShift :=
  counter_counterStep_self counterBlind_endOfFrame _ _ _ _ s

theorem counter_stepTimer2_ne {r : CounterRef} (h : r ≠ .timer 2) (s : State) :
    (stepTimer2 s).counter r = s.counter r :=
  counter_counterStep_ne counterBlind_endOfFrame h _ _ _ s

@[simp] theorem cycle_stepTimer2 (s : State) : (stepTimer2 s).cycle = s.cycle :=
  cycle_counterStep counterBlind_endOfFrame _ _ _ _ s

theorem counter_stepTimer3_self (s : State) :
    (stepTimer3 s).counter (.timer 3) = (s.counter (.timer 3)).stepped true (s.timerBorrow 1) s.cycle
      Config.baseShift :=
  counter_counterStep_self (counterBlind_raiseIfEnabled 3) _ _ _ _ s

theorem counter_stepTimer3_ne {r : CounterRef} (h : r ≠ .timer 3) (s : State) :
    (stepTimer3 s).counter r = s.counter r :=
  counter_counterStep_ne (counterBlind_raiseIfEnabled 3) h _ _ _ s

@[simp] theorem cycle_stepTimer3 (s : State) : (stepTimer3 s).cycle = s.cycle :=
  cycle_counterStep (counterBlind_raiseIfEnabled 3) _ _ _ _ s

theorem counter_stepTimer4_self (s : State) :
    (stepTimer4 s).counter (.timer 4) = (s.counter (.timer 4)).stepped true (s.timerBorrow 2) s.cycle
      (Config.baseShift + Config.t4ExtraShift) :=
  counter_counterStep_self counterBlind_uartTick _ _ _ _ s

theorem counter_stepTimer4_ne {r : CounterRef} (h : r ≠ .timer 4) (s : State) :
    (stepTimer4 s).counter r = s.counter r :=
  counter_counterStep_ne counterBlind_uartTick h _ _ _ s

@[simp] theorem cycle_stepTimer4 (s : State) : (stepTimer4 s).cycle = s.cycle :=
  cycle_counterStep counterBlind_uartTick _ _ _ _ s

theorem counter_stepTimer5_self (s : State) :
    (stepTimer5 s).counter (.timer 5) = (s.counter (.timer 5)).stepped true (s.timerBorrow 3) s.cycle
      Config.baseShift :=
  counter_counterStep_self (counterBlind_raiseIfEnabled 5) _ _ _ _ s

theorem counter_stepTimer5_ne {r : CounterRef} (h : r ≠ .timer 5) (s : State) :
    (stepTimer5 s).counter r = s.counter r :=
  counter_counterStep_ne (counterBlind_raiseIfEnabled 5) h _ _ _ s

@[simp] theorem cycle_stepTimer5 (s : State) : (stepTimer5 s).cycle = s.cycle :=
  cycle_counterStep (counterBlind_raiseIfEnabled 5) _ _ _ _ s

theorem counter_stepTimer6_self (s : State) :
    (stepTimer6 s).counter (.timer 6) = (s.counter (.timer 6)).stepped false false s.cycle
      Config.baseShift :=
  counter_counterStep_self (counterBlind_raiseIfEnabled 6) _ _ _ _ s

theorem counter_stepTimer6_ne {r : CounterRef} (h : r ≠ .timer 6) (s : State) :
    (stepTimer6 s).counter r = s.counter r :=
  counter_counterStep_ne (counterBlind_raiseIfEnabled 6) h _ _ _ s

@[simp] theorem cycle_stepTimer6 (s : State) : (stepTimer6 s).cycle = s.cycle :=
  cycle_counterStep (counterBlind_raiseIfEnabled 6) _ _ _ _ s

theorem counter_stepTimer7_self (s : State) :
    (stepTimer7 s).counter (.timer 7) = (s.counter (.timer 7)).stepped true (s.timerBorrow 5) s.cycle
      Config.baseShift :=
  counter_counterStep_self (counterBlind_raiseIfEnabled 7) _ _ _ _ s

theorem counter_stepTimer7_ne {r : CounterRef} (h : r ≠ .timer 7) (s : State) :
    (stepTimer7 s).counter r = s.counter r :=
  counter_counterStep_ne (counterBlind_raiseIfEnabled 7) h _ _ _ s

@[simp] theorem cycle_stepTimer7 (s : State) : (stepTimer7 s).cycle = s.cycle :=
  cycle_counterStep (counterBlind_raiseIfEnabled 7) _ _ _ _ s

theorem counter_stepAudio_self (c : Fin 4) (s : State) :
    (stepAudio c s).counter (.audio c) =
      (s.counter (.audio c)).stepped true (s.audioSource c) s.cycle Config.baseShift :=
  counter_counterStep_self (counterBlind_audioUnderflow c) _ _ _ _ s

theorem counter_stepAudio_ne {c : Fin 4} {r : CounterRef} (h : r ≠ .audio c) (s : State) :
    (stepAudio c s).counter r = s.counter r :=
  counter_counterStep_ne (counterBlind_audioUnderflow c) h _ _ _ s

@[simp] theorem cycle_stepAudio (c : Fin 4) (s : State) : (stepAudio c s).cycle = s.cycle :=
  cycle_counterStep (counterBlind_audioUnderflow c) _ _ _ _ s

/-! ### The pass -/

/-- The borrow of a counter's link source as it stands in a state; chain heads have the constant 0. -/
def sourceBorrow (s : State) (ref : CounterRef) : Bool :=
  match linkSource ref with
  | some src => (s.counter src).borrowOut
  | none => false

/-- The cycle is settled when the pass begins. -/
theorem cycle_updatePass (s : State) : (updatePass s).cycle = (beginPass s).cycle := by
  simp [updatePass, passTimer6, passAudio, passChannel, passGroupB, passGroupA]

/-- Timer 0 in a pass (41_timers.md R84). -/
theorem counter_updatePass_timer0 (s : State) :
    (updatePass s).counter (.timer 0) = ((beginPass s).counter (.timer 0)).stepped0 (beginPass s).cycle := by
  simp [updatePass, passTimer6, passAudio, passChannel, passGroupB, passGroupA, counter_stepTimer0_self,
    counter_stepTimer1_ne, counter_stepTimer2_ne, counter_stepTimer3_ne, counter_stepTimer4_ne, counter_stepTimer5_ne,
    counter_stepTimer6_ne, counter_stepTimer7_ne, counter_stepAudio_ne]

/-- A timer's borrow, through its counter. -/
theorem timerBorrow_counter (s : State) (n : Fin 8) : s.timerBorrow n = (s.counter (.timer n)).borrowOut := rfl

/-- A channel's source borrow, through the counters. -/
theorem audioSource_counter (s : State) (c : Fin 4) :
    s.audioSource c =
      if c = 0 then (s.counter (.timer 7)).borrowOut else (s.counter (.audio (c - 1))).borrowOut := rfl

/-- Every other counter in a pass: its generic step, on the borrow its source has after the pass. -/
theorem counter_updatePass (s : State) {ref : CounterRef} (h : ref ≠ .timer 0) :
    (updatePass s).counter ref =
      ((beginPass s).counter ref).stepped (decide (ref ≠ .timer 6)) (sourceBorrow (updatePass s) ref) (beginPass s).cycle
        (shiftBase ref) := by
  have hc : ∀ ref : CounterRef, ref ∈ [CounterRef.timer 1, .timer 2, .timer 3, .timer 4, .timer 5, .timer 6, .timer 7,
      .audio 0, .audio 1, .audio 2, .audio 3] ∨ ref = .timer 0 := by
    intro ref
    cases ref with
    | timer n => revert n; decide
    | audio c => revert c; decide
  rcases hc ref with hm | hm
  · simp only [List.mem_cons, List.not_mem_nil, or_false] at hm
    rcases hm with rfl | rfl | rfl | rfl | rfl | rfl | rfl | rfl | rfl | rfl | rfl <;>
    simp [updatePass, passTimer6, passAudio, passChannel, passGroupB, passGroupA, sourceBorrow, linkSource, shiftBase,
      timerBorrow_counter, audioSource_counter, counter_stepTimer1_self, counter_stepTimer2_self, counter_stepTimer3_self,
      counter_stepTimer4_self, counter_stepTimer5_self, counter_stepTimer6_self, counter_stepTimer7_self,
      counter_stepAudio_self, counter_stepTimer0_ne, counter_stepTimer1_ne, counter_stepTimer2_ne,
      counter_stepTimer3_ne, counter_stepTimer4_ne, counter_stepTimer5_ne, counter_stepTimer6_ne,
      counter_stepTimer7_ne, counter_stepAudio_ne]
  · exact absurd hm h

end Sys2Proof.Machine
end

