-- ==== Sys2Proof/Laws/PerInstr.lean ====
section
/-! SUPPORT. The family TableRow of LAWS.json: the word the encoder writes for a well-formed instruction
lies in the instruction's row of spec/opcode_table.json. One lemma per constructor. -/

namespace Sys2Proof.Laws.TableRow

/-- The instruction's word matches the row its mnemonic names. -/
def Statement (i : Instr) : Prop := i.wellFormed = true → i.row.holds (encode i) = true

/-- A row whose mask leaves out the whole `d` field is matched field by field. -/
theorem holds_of_fields {r : Row} {cls : BitVec 4} {a d : Byte} (pc mc : BitVec 4) (pa ma : Byte)
    (hr : r = ⟨pc ++ pa ++ 0#8, mc ++ ma ++ 0#8⟩) (hc : cls &&& mc = pc) (ha : a &&& ma = pa) :
    r.holds (mkWord cls a d) = true := by
  subst hr hc ha
  simp only [Row.holds, mkWord, beq_iff_eq]
  change (cls ++ a ++ d) &&& (mc ++ ma ++ 0#8) = ((cls &&& mc) ++ (a &&& ma) ++ 0#8 : BitVec (4 + 8 + 8))
  ext i hi
  simp only [BitVec.getElem_and, BitVec.getElem_append]
  split
  · simp
  · split <;> rfl

theorem offsetT_row : ∀ (n : Fin 8) (r : BitVec 2), offsetT n r &&& 0xE3 = r.setWidth 8 := by decide

theorem offsetA_row : ∀ (c : Fin 4) (k : BitVec 3), offsetA c k &&& 0xE7 = 0x20 ||| k.setWidth 8 := by decide

theorem offsetN_row : ∀ c : Fin 4, offsetN c &&& 0xFC = 0x40 := by decide

theorem offsetP_row : ∀ (b : BitVec 1) (i : Fin 16), offsetP b i &&& 0xF0 = 0xA0 ||| (b.setWidth 8 <<< 4) := by
  decide

theorem peekTimBkup (n : Fin 8) : Statement (.peekTimBkup n) := fun _ =>
  holds_of_fields 0x0 0xF 0x00 0xE3 rfl rfl (offsetT_row n 0)
theorem pokeTimBkup (n : Fin 8) (val : Byte) : Statement (.pokeTimBkup n val) := fun _ =>
  holds_of_fields 0x1 0xF 0x00 0xE3 rfl rfl (offsetT_row n 0)
theorem peekTimCtla (n : Fin 8) : Statement (.peekTimCtla n) := fun _ =>
  holds_of_fields 0x0 0xF 0x01 0xE3 rfl rfl (offsetT_row n 1)
theorem pokeTimCtla (n : Fin 8) (val : Byte) : Statement (.pokeTimCtla n val) := fun _ =>
  holds_of_fields 0x1 0xF 0x01 0xE3 rfl rfl (offsetT_row n 1)
theorem peekTimCnt (n : Fin 8) : Statement (.peekTimCnt n) := fun _ =>
  holds_of_fields 0x0 0xF 0x02 0xE3 rfl rfl (offsetT_row n 2)
theorem pokeTimCnt (n : Fin 8) (val : Byte) : Statement (.pokeTimCnt n val) := fun _ =>
  holds_of_fields 0x1 0xF 0x02 0xE3 rfl rfl (offsetT_row n 2)
theorem peekTimCtlb (n : Fin 8) : Statement (.peekTimCtlb n) := fun _ =>
  holds_of_fields 0x0 0xF 0x03 0xE3 rfl rfl (offsetT_row n 3)
theorem pokeTimCtlb (n : Fin 8) (val : Byte) : Statement (.pokeTimCtlb n val) := fun _ =>
  holds_of_fields 0x1 0xF 0x03 0xE3 rfl rfl (offsetT_row n 3)
theorem peekAudVol (c : Fin 4) : Statement (.peekAudVol c) := fun _ =>
  holds_of_fields 0x0 0xF 0x20 0xE7 rfl rfl (offsetA_row c 0)
theorem pokeAudVol (c : Fin 4) (val : Byte) : Statement (.pokeAudVol c val) := fun _ =>
  holds_of_fields 0x1 0xF 0x20 0xE7 rfl rfl (offsetA_row c 0)
theorem peekAudShftfb (c : Fin 4) : Statement (.peekAudShftfb c) := fun _ =>
  holds_of_fields 0x0 0xF 0x21 0xE7 rfl rfl (offsetA_row c 1)
theorem pokeAudShftfb (c : Fin 4) (val : Byte) : Statement (.pokeAudShftfb c val) := fun _ =>
  holds_of_fields 0x1 0xF 0x21 0xE7 rfl rfl (offsetA_row c 1)
theorem peekAudOutval (c : Fin 4) : Statement (.peekAudOutval c) := fun _ =>
  holds_of_fields 0x0 0xF 0x22 0xE7 rfl rfl (offsetA_row c 2)
theorem pokeAudOutval (c : Fin 4) (val : Byte) : Statement (.pokeAudOutval c val) := fun _ =>
  holds_of_fields 0x1 0xF 0x22 0xE7 rfl rfl (offsetA_row c 2)
theorem peekAudL8shft (c : Fin 4) : Statement (.peekAudL8shft c) := fun _ =>
  holds_of_fields 0x0 0xF 0x23 0xE7 rfl rfl (offsetA_row c 3)
theorem pokeAudL8shft (c : Fin 4) (val : Byte) : Statement (.pokeAudL8shft c val) := fun _ =>
  holds_of_fields 0x1 0xF 0x23 0xE7 rfl rfl (offsetA_row c 3)
theorem peekAudTback (c : Fin 4) : Statement (.peekAudTback c) := fun _ =>
  holds_of_fields 0x0 0xF 0x24 0xE7 rfl rfl (offsetA_row c 4)
theorem pokeAudTback (c : Fin 4) (val : Byte) : Statement (.pokeAudTback c val) := fun _ =>
  holds_of_fields 0x1 0xF 0x24 0xE7 rfl rfl (offsetA_row c 4)
theorem peekAudCtl (c : Fin 4) : Statement (.peekAudCtl c) := fun _ =>
  holds_of_fields 0x0 0xF 0x25 0xE7 rfl rfl (offsetA_row c 5)
theorem pokeAudCtl (c : Fin 4) (val : Byte) : Statement (.pokeAudCtl c val) := fun _ =>
  holds_of_fields 0x1 0xF 0x25 0xE7 rfl rfl (offsetA_row c 5)
theorem peekAudCount (c : Fin 4) : Statement (.peekAudCount c) := fun _ =>
  holds_of_fields 0x0 0xF 0x26 0xE7 rfl rfl (offsetA_row c 6)
theorem pokeAudCount (c : Fin 4) (val : Byte) : Statement (.pokeAudCount c val) := fun _ =>
  holds_of_fields 0x1 0xF 0x26 0xE7 rfl rfl (offsetA_row c 6)
theorem peekAudMisc (c : Fin 4) : Statement (.peekAudMisc c) := fun _ =>
  holds_of_fields 0x0 0xF 0x27 0xE7 rfl rfl (offsetA_row c 7)
theorem pokeAudMisc (c : Fin 4) (val : Byte) : Statement (.pokeAudMisc c val) := fun _ =>
  holds_of_fields 0x1 0xF 0x27 0xE7 rfl rfl (offsetA_row c 7)
theorem peekAtten (c : Fin 4) : Statement (.peekAtten c) := fun _ =>
  holds_of_fields 0x0 0xF 0x40 0xFC rfl rfl (offsetN_row c)
theorem pokeAtten (c : Fin 4) (val : Byte) : Statement (.pokeAtten c val) := fun _ =>
  holds_of_fields 0x1 0xF 0x40 0xFC rfl rfl (offsetN_row c)
theorem peekMpan : Statement (.peekMpan) := fun _ =>
  holds_of_fields 0x0 0xF 0x44 0xFF rfl rfl rfl
theorem pokeMpan (val : Byte) : Statement (.pokeMpan val) := fun _ =>
  holds_of_fields 0x1 0xF 0x44 0xFF rfl rfl rfl
theorem peekMstereo : Statement (.peekMstereo) := fun _ =>
  holds_of_fields 0x0 0xF 0x50 0xFF rfl rfl rfl
theorem pokeMstereo (val : Byte) : Statement (.pokeMstereo val) := fun _ =>
  holds_of_fields 0x1 0xF 0x50 0xFF rfl rfl rfl
theorem peekIntrst : Statement (.peekIntrst) := fun _ =>
  holds_of_fields 0x0 0xF 0x80 0xFF rfl rfl rfl
theorem pokeIntrst (val : Byte) : Statement (.pokeIntrst val) := fun _ =>
  holds_of_fields 0x1 0xF 0x80 0xFF rfl rfl rfl
theorem peekIntset : Statement (.peekIntset) := fun _ =>
  holds_of_fields 0x0 0xF 0x81 0xFF rfl rfl rfl
theorem pokeIntset (val : Byte) : Statement (.pokeIntset val) := fun _ =>
  holds_of_fields 0x1 0xF 0x81 0xFF rfl rfl rfl
theorem peekMagrdy0 : Statement (.peekMagrdy0) := fun _ =>
  holds_of_fields 0x0 0xF 0x84 0xFF rfl rfl rfl
theorem peekMagrdy1 : Statement (.peekMagrdy1) := fun _ =>
  holds_of_fields 0x0 0xF 0x85 0xFF rfl rfl rfl
theorem peekAudin : Statement (.peekAudin) := fun _ =>
  holds_of_fields 0x0 0xF 0x86 0xFF rfl rfl rfl
theorem pokeSysctl1 (val : Byte) : Statement (.pokeSysctl1 val) := fun _ =>
  holds_of_fields 0x1 0xF 0x87 0xFF rfl rfl rfl
theorem peekMikeyhrev : Statement (.peekMikeyhrev) := fun _ =>
  holds_of_fields 0x0 0xF 0x88 0xFF rfl rfl rfl
theorem pokeMikeysrev (val : Byte) : Statement (.pokeMikeysrev val) := fun _ =>
  holds_of_fields 0x1 0xF 0x89 0xFF rfl rfl rfl
theorem pokeIodir (val : Byte) : Statement (.pokeIodir val) := fun _ =>
  holds_of_fields 0x1 0xF 0x8A 0xFF rfl rfl rfl
theorem peekIodat : Statement (.peekIodat) := fun _ =>
  holds_of_fields 0x0 0xF 0x8B 0xFF rfl rfl rfl
theorem pokeIodat (val : Byte) : Statement (.pokeIodat val) := fun _ =>
  holds_of_fields 0x1 0xF 0x8B 0xFF rfl rfl rfl
theorem peekSerctl : Statement (.peekSerctl) := fun _ =>
  holds_of_fields 0x0 0xF 0x8C 0xFF rfl rfl rfl
theorem pokeSerctl (val : Byte) : Statement (.pokeSerctl val) := fun _ =>
  holds_of_fields 0x1 0xF 0x8C 0xFF rfl rfl rfl
theorem peekSerdat : Statement (.peekSerdat) := fun _ =>
  holds_of_fields 0x0 0xF 0x8D 0xFF rfl rfl rfl
theorem pokeSerdat (val : Byte) : Statement (.pokeSerdat val) := fun _ =>
  holds_of_fields 0x1 0xF 0x8D 0xFF rfl rfl rfl
theorem pokeSdoneack (val : Byte) : Statement (.pokeSdoneack val) := fun _ =>
  holds_of_fields 0x1 0xF 0x90 0xFF rfl rfl rfl
theorem pokeCpusleep (val : Byte) : Statement (.pokeCpusleep val) := fun _ =>
  holds_of_fields 0x1 0xF 0x91 0xFF rfl rfl rfl
theorem pokeDispctl (val : Byte) : Statement (.pokeDispctl val) := fun _ =>
  holds_of_fields 0x1 0xF 0x92 0xFF rfl rfl rfl
theorem pokePbkup (val : Byte) : Statement (.pokePbkup val) := fun _ =>
  holds_of_fields 0x1 0xF 0x93 0xFF rfl rfl rfl
theorem pokeDispadrl (val : Byte) : Statement (.pokeDispadrl val) := fun _ =>
  holds_of_fields 0x1 0xF 0x94 0xFF rfl rfl rfl
theorem pokeDispadrh (val : Byte) : Statement (.pokeDispadrh val) := fun _ =>
  holds_of_fields 0x1 0xF 0x95 0xFF rfl rfl rfl
theorem pokeMtest0 (val : Byte) : Statement (.pokeMtest0 val) := fun _ =>
  holds_of_fields 0x1 0xF 0x9C 0xFF rfl rfl rfl
theorem pokeMtest1 (val : Byte) : Statement (.pokeMtest1 val) := fun _ =>
  holds_of_fields 0x1 0xF 0x9D 0xFF rfl rfl rfl
theorem pokeMtest2 (val : Byte) : Statement (.pokeMtest2 val) := fun _ =>
  holds_of_fields 0x1 0xF 0x9E 0xFF rfl rfl rfl
theorem peekGreen (i : Fin 16) : Statement (.peekGreen i) := fun _ =>
  holds_of_fields 0x0 0xF 0xA0 0xF0 rfl rfl (offsetP_row 0 i)
theorem pokeGreen (i : Fin 16) (val : Byte) : Statement (.pokeGreen i val) := fun _ =>
  holds_of_fields 0x1 0xF 0xA0 0xF0 rfl rfl (offsetP_row 0 i)
theorem peekBluered (i : Fin 16) : Statement (.peekBluered i) := fun _ =>
  holds_of_fields 0x0 0xF 0xB0 0xF0 rfl rfl (offsetP_row 1 i)
theorem pokeBluered (i : Fin 16) (val : Byte) : Statement (.pokeBluered i val) := fun _ =>
  holds_of_fields 0x1 0xF 0xB0 0xF0 rfl rfl (offsetP_row 1 i)
theorem peekIllegal45 : Statement (.peekIllegal45) := fun _ =>
  holds_of_fields 0x0 0xF 0x45 0xFF rfl rfl rfl
theorem peekIllegal46 (off : Byte) : Statement (.peekIllegal46 off) := by
  have key : ∀ off : Byte, offsetIn 0x46 0x47 off = true → off &&& 0xFE#8 = 0x46#8 := by decide
  exact fun h => holds_of_fields 0x0 0xF 0x46 0xFE rfl rfl (key off h)
theorem peekIllegal48 (off : Byte) : Statement (.peekIllegal48 off) := by
  have key : ∀ off : Byte, offsetIn 0x48 0x4F off = true → off &&& 0xF8#8 = 0x48#8 := by decide
  exact fun h => holds_of_fields 0x0 0xF 0x48 0xF8 rfl rfl (key off h)
theorem peekIllegal51 : Statement (.peekIllegal51) := fun _ =>
  holds_of_fields 0x0 0xF 0x51 0xFF rfl rfl rfl
theorem peekIllegal52 (off : Byte) : Statement (.peekIllegal52 off) := by
  have key : ∀ off : Byte, offsetIn 0x52 0x53 off = true → off &&& 0xFE#8 = 0x52#8 := by decide
  exact fun h => holds_of_fields 0x0 0xF 0x52 0xFE rfl rfl (key off h)
theorem peekIllegal54 (off : Byte) : Statement (.peekIllegal54 off) := by
  have key : ∀ off : Byte, offsetIn 0x54 0x57 off = true → off &&& 0xFC#8 = 0x54#8 := by decide
  exact fun h => holds_of_fields 0x0 0xF 0x54 0xFC rfl rfl (key off h)
theorem peekIllegal58 (off : Byte) : Statement (.peekIllegal58 off) := by
  have key : ∀ off : Byte, offsetIn 0x58 0x5F off = true → off &&& 0xF8#8 = 0x58#8 := by decide
  exact fun h => holds_of_fields 0x0 0xF 0x58 0xF8 rfl rfl (key off h)
theorem peekIllegal60 (off : Byte) : Statement (.peekIllegal60 off) := by
  have key : ∀ off : Byte, offsetIn 0x60 0x7F off = true → off &&& 0xE0#8 = 0x60#8 := by decide
  exact fun h => holds_of_fields 0x0 0xF 0x60 0xE0 rfl rfl (key off h)
theorem peekIllegal82 (off : Byte) : Statement (.peekIllegal82 off) := by
  have key : ∀ off : Byte, offsetIn 0x82 0x83 off = true → off &&& 0xFE#8 = 0x82#8 := by decide
  exact fun h => holds_of_fields 0x0 0xF 0x82 0xFE rfl rfl (key off h)
theorem peekIllegal87 : Statement (.peekIllegal87) := fun _ =>
  holds_of_fields 0x0 0xF 0x87 0xFF rfl rfl rfl
theorem peekIllegal89 : Statement (.peekIllegal89) := fun _ =>
  holds_of_fields 0x0 0xF 0x89 0xFF rfl rfl rfl
theorem peekIllegal8A : Statement (.peekIllegal8A) := fun _ =>
  holds_of_fields 0x0 0xF 0x8A 0xFF rfl rfl rfl
theorem peekIllegal8E (off : Byte) : Statement (.peekIllegal8E off) := by
  have key : ∀ off : Byte, offsetIn 0x8E 0x8F off = true → off &&& 0xFE#8 = 0x8E#8 := by decide
  exact fun h => holds_of_fields 0x0 0xF 0x8E 0xFE rfl rfl (key off h)
theorem peekIllegal90 (off : Byte) : Statement (.peekIllegal90 off) := by
  have key : ∀ off : Byte, offsetIn 0x90 0x9F off = true → off &&& 0xF0#8 = 0x90#8 := by decide
  exact fun h => holds_of_fields 0x0 0xF 0x90 0xF0 rfl rfl (key off h)
theorem peekIllegalC0 (off : Byte) : Statement (.peekIllegalC0 off) := by
  have key : ∀ off : Byte, offsetIn 0xC0 0xFF off = true → off &&& 0xC0#8 = 0xC0#8 := by decide
  exact fun h => holds_of_fields 0x0 0xF 0xC0 0xC0 rfl rfl (key off h)
theorem pokeIllegal45 (val : Byte) : Statement (.pokeIllegal45 val) := fun _ =>
  holds_of_fields 0x1 0xF 0x45 0xFF rfl rfl rfl
theorem pokeIllegal46 (off : Byte) (val : Byte) : Statement (.pokeIllegal46 off val) := by
  have key : ∀ off : Byte, offsetIn 0x46 0x47 off = true → off &&& 0xFE#8 = 0x46#8 := by decide
  exact fun h => holds_of_fields 0x1 0xF 0x46 0xFE rfl rfl (key off h)
theorem pokeIllegal48 (off : Byte) (val : Byte) : Statement (.pokeIllegal48 off val) := by
  have key : ∀ off : Byte, offsetIn 0x48 0x4F off = true → off &&& 0xF8#8 = 0x48#8 := by decide
  exact fun h => holds_of_fields 0x1 0xF 0x48 0xF8 rfl rfl (key off h)
theorem pokeIllegal51 (val : Byte) : Statement (.pokeIllegal51 val) := fun _ =>
  holds_of_fields 0x1 0xF 0x51 0xFF rfl rfl rfl
theorem pokeIllegal52 (off : Byte) (val : Byte) : Statement (.pokeIllegal52 off val) := by
  have key : ∀ off : Byte, offsetIn 0x52 0x53 off = true → off &&& 0xFE#8 = 0x52#8 := by decide
  exact fun h => holds_of_fields 0x1 0xF 0x52 0xFE rfl rfl (key off h)
theorem pokeIllegal54 (off : Byte) (val : Byte) : Statement (.pokeIllegal54 off val) := by
  have key : ∀ off : Byte, offsetIn 0x54 0x57 off = true → off &&& 0xFC#8 = 0x54#8 := by decide
  exact fun h => holds_of_fields 0x1 0xF 0x54 0xFC rfl rfl (key off h)
theorem pokeIllegal58 (off : Byte) (val : Byte) : Statement (.pokeIllegal58 off val) := by
  have key : ∀ off : Byte, offsetIn 0x58 0x5F off = true → off &&& 0xF8#8 = 0x58#8 := by decide
  exact fun h => holds_of_fields 0x1 0xF 0x58 0xF8 rfl rfl (key off h)
theorem pokeIllegal60 (off : Byte) (val : Byte) : Statement (.pokeIllegal60 off val) := by
  have key : ∀ off : Byte, offsetIn 0x60 0x7F off = true → off &&& 0xE0#8 = 0x60#8 := by decide
  exact fun h => holds_of_fields 0x1 0xF 0x60 0xE0 rfl rfl (key off h)
theorem pokeIllegal82 (off : Byte) (val : Byte) : Statement (.pokeIllegal82 off val) := by
  have key : ∀ off : Byte, offsetIn 0x82 0x83 off = true → off &&& 0xFE#8 = 0x82#8 := by decide
  exact fun h => holds_of_fields 0x1 0xF 0x82 0xFE rfl rfl (key off h)
theorem pokeIllegal84 (off : Byte) (val : Byte) : Statement (.pokeIllegal84 off val) := by
  have key : ∀ off : Byte, offsetIn 0x84 0x85 off = true → off &&& 0xFE#8 = 0x84#8 := by decide
  exact fun h => holds_of_fields 0x1 0xF 0x84 0xFE rfl rfl (key off h)
theorem pokeIllegal86 (val : Byte) : Statement (.pokeIllegal86 val) := fun _ =>
  holds_of_fields 0x1 0xF 0x86 0xFF rfl rfl rfl
theorem pokeIllegal88 (val : Byte) : Statement (.pokeIllegal88 val) := fun _ =>
  holds_of_fields 0x1 0xF 0x88 0xFF rfl rfl rfl
theorem pokeIllegal8E (off : Byte) (val : Byte) : Statement (.pokeIllegal8E off val) := by
  have key : ∀ off : Byte, offsetIn 0x8E 0x8F off = true → off &&& 0xFE#8 = 0x8E#8 := by decide
  exact fun h => holds_of_fields 0x1 0xF 0x8E 0xFE rfl rfl (key off h)
theorem pokeIllegal96 (off : Byte) (val : Byte) : Statement (.pokeIllegal96 off val) := by
  have key : ∀ off : Byte, offsetIn 0x96 0x97 off = true → off &&& 0xFE#8 = 0x96#8 := by decide
  exact fun h => holds_of_fields 0x1 0xF 0x96 0xFE rfl rfl (key off h)
theorem pokeIllegal98 (off : Byte) (val : Byte) : Statement (.pokeIllegal98 off val) := by
  have key : ∀ off : Byte, offsetIn 0x98 0x9B off = true → off &&& 0xFC#8 = 0x98#8 := by decide
  exact fun h => holds_of_fields 0x1 0xF 0x98 0xFC rfl rfl (key off h)
theorem pokeIllegal9F (val : Byte) : Statement (.pokeIllegal9F val) := fun _ =>
  holds_of_fields 0x1 0xF 0x9F 0xFF rfl rfl rfl
theorem pokeIllegalC0 (off : Byte) (val : Byte) : Statement (.pokeIllegalC0 off val) := by
  have key : ∀ off : Byte, offsetIn 0xC0 0xFF off = true → off &&& 0xC0#8 = 0xC0#8 := by decide
  exact fun h => holds_of_fields 0x1 0xF 0xC0 0xC0 rfl rfl (key off h)
theorem update : Statement (.update) := fun _ =>
  holds_of_fields 0x2 0xF 0x00 0x00 rfl rfl (by simp)
theorem advance (n : BitVec 16) : Statement (.advance n) := fun _ =>
  holds_of_fields 0x3 0xF 0x00 0x00 rfl rfl (by simp)
theorem reset : Statement (.reset) := fun _ =>
  holds_of_fields 0x4 0xF 0x00 0x00 rfl rfl (by simp)
theorem rxInject (w : SerialWord) : Statement (.rxInject w) := fun _ =>
  holds_of_fields 0x5 0xF 0x00 0x00 rfl rfl (by simp)
theorem bindSurface : Statement (.bindSurface) := fun _ =>
  holds_of_fields 0x6 0xF 0x00 0x00 rfl rfl (by simp)
theorem setSkip (b : Bool) : Statement (.setSkip b) := fun _ =>
  holds_of_fields 0x7 0xF 0x00 0x00 rfl rfl (by simp)
theorem setEpoch : Statement (.setEpoch) := fun _ =>
  holds_of_fields 0x8 0xF 0x00 0x00 rfl rfl (by simp)
theorem setCallback (b : Bool) : Statement (.setCallback b) := fun _ =>
  holds_of_fields 0x9 0xF 0x00 0x00 rfl rfl (by simp)

end Sys2Proof.Laws.TableRow
end

