-- ==== Sys2Proof/Tests/Slice0.lean ====
section
/-! SUPPORT. Tests. Expected values are the worked examples and tables of spec/, cited at each test; the witnesses
show states and operands that meet the hypotheses of the statements of Certificates/Slice0/Obligations.lean. -/

namespace Sys2Proof.Tests

open Sys2Proof.Machine

/-! ### Well-formedness: one ill-formed term for each check -/

/-- Each illegal PEEK block refuses the offset just below and just above it (30_encoding.md R54). -/
theorem test_illFormed_peeks :
    (.peekIllegal46 0x45 : Instr).wellFormed = false ∧
    (.peekIllegal46 0x48 : Instr).wellFormed = false ∧
    (.peekIllegal48 0x47 : Instr).wellFormed = false ∧
    (.peekIllegal48 0x50 : Instr).wellFormed = false ∧
    (.peekIllegal52 0x51 : Instr).wellFormed = false ∧
    (.peekIllegal52 0x54 : Instr).wellFormed = false ∧
    (.peekIllegal54 0x53 : Instr).wellFormed = false ∧
    (.peekIllegal54 0x58 : Instr).wellFormed = false ∧
    (.peekIllegal58 0x57 : Instr).wellFormed = false ∧
    (.peekIllegal58 0x60 : Instr).wellFormed = false ∧
    (.peekIllegal60 0x5F : Instr).wellFormed = false ∧
    (.peekIllegal60 0x80 : Instr).wellFormed = false ∧
    (.peekIllegal82 0x81 : Instr).wellFormed = false ∧
    (.peekIllegal82 0x84 : Instr).wellFormed = false ∧
    (.peekIllegal8E 0x8D : Instr).wellFormed = false ∧
    (.peekIllegal8E 0x90 : Instr).wellFormed = false ∧
    (.peekIllegal90 0x8F : Instr).wellFormed = false ∧
    (.peekIllegal90 0xA0 : Instr).wellFormed = false ∧
    (.peekIllegalC0 0xBF : Instr).wellFormed = false := by decide

/-- Each illegal POKE block refuses the offset just below and just above it. -/
theorem test_illFormed_pokes :
    (.pokeIllegal46 0x45 0 : Instr).wellFormed = false ∧
    (.pokeIllegal46 0x48 0 : Instr).wellFormed = false ∧
    (.pokeIllegal48 0x47 0 : Instr).wellFormed = false ∧
    (.pokeIllegal48 0x50 0 : Instr).wellFormed = false ∧
    (.pokeIllegal52 0x51 0 : Instr).wellFormed = false ∧
    (.pokeIllegal52 0x54 0 : Instr).wellFormed = false ∧
    (.pokeIllegal54 0x53 0 : Instr).wellFormed = false ∧
    (.pokeIllegal54 0x58 0 : Instr).wellFormed = false ∧
    (.pokeIllegal58 0x57 0 : Instr).wellFormed = false ∧
    (.pokeIllegal58 0x60 0 : Instr).wellFormed = false ∧
    (.pokeIllegal60 0x5F 0 : Instr).wellFormed = false ∧
    (.pokeIllegal60 0x80 0 : Instr).wellFormed = false ∧
    (.pokeIllegal82 0x81 0 : Instr).wellFormed = false ∧
    (.pokeIllegal82 0x84 0 : Instr).wellFormed = false ∧
    (.pokeIllegal84 0x83 0 : Instr).wellFormed = false ∧
    (.pokeIllegal84 0x86 0 : Instr).wellFormed = false ∧
    (.pokeIllegal8E 0x8D 0 : Instr).wellFormed = false ∧
    (.pokeIllegal8E 0x90 0 : Instr).wellFormed = false ∧
    (.pokeIllegal96 0x95 0 : Instr).wellFormed = false ∧
    (.pokeIllegal96 0x98 0 : Instr).wellFormed = false ∧
    (.pokeIllegal98 0x97 0 : Instr).wellFormed = false ∧
    (.pokeIllegal98 0x9C 0 : Instr).wellFormed = false ∧
    (.pokeIllegalC0 0xBF 0 : Instr).wellFormed = false := by decide

/-! ### Decoding: the word of every constructor, bits written out from the tables of 30_encoding.md -/

/-- Format T: offset `000nnnrr` (30_encoding.md R53, R54). -/
theorem test_decode_timers :
    decodeTableWord 20 0b0000_00000100_00000000 = some (.peekTimBkup 1) ∧
    decodeTableWord 20 0b0001_00000100_10011000 = some (.pokeTimBkup 1 0x98) ∧
    decodeTableWord 20 0b0000_00011001_00000000 = some (.peekTimCtla 6) ∧
    decodeTableWord 20 0b0001_00011001_10011001 = some (.pokeTimCtla 6 0x99) ∧
    decodeTableWord 20 0b0000_00001110_00000000 = some (.peekTimCnt 3) ∧
    decodeTableWord 20 0b0001_00001110_10011010 = some (.pokeTimCnt 3 0x9A) ∧
    decodeTableWord 20 0b0000_00011111_00000000 = some (.peekTimCtlb 7) ∧
    decodeTableWord 20 0b0001_00011111_10011011 = some (.pokeTimCtlb 7 0x9B) := by decide

/-- Format A: offset `001cckkk` (R53, R54). -/
theorem test_decode_audio :
    decodeTableWord 20 0b0000_00110000_00000000 = some (.peekAudVol 2) ∧
    decodeTableWord 20 0b0001_00110000_01000000 = some (.pokeAudVol 2 0x40) ∧
    decodeTableWord 20 0b0000_00101001_00000000 = some (.peekAudShftfb 1) ∧
    decodeTableWord 20 0b0001_00101001_01000001 = some (.pokeAudShftfb 1 0x41) ∧
    decodeTableWord 20 0b0000_00111010_00000000 = some (.peekAudOutval 3) ∧
    decodeTableWord 20 0b0001_00111010_01000010 = some (.pokeAudOutval 3 0x42) ∧
    decodeTableWord 20 0b0000_00100011_00000000 = some (.peekAudL8shft 0) ∧
    decodeTableWord 20 0b0001_00100011_01000011 = some (.pokeAudL8shft 0 0x43) ∧
    decodeTableWord 20 0b0000_00101100_00000000 = some (.peekAudTback 1) ∧
    decodeTableWord 20 0b0001_00101100_01000100 = some (.pokeAudTback 1 0x44) ∧
    decodeTableWord 20 0b0000_00110101_00000000 = some (.peekAudCtl 2) ∧
    decodeTableWord 20 0b0001_00110101_01000101 = some (.pokeAudCtl 2 0x45) ∧
    decodeTableWord 20 0b0000_00100110_00000000 = some (.peekAudCount 0) ∧
    decodeTableWord 20 0b0001_00100110_01000110 = some (.pokeAudCount 0 0x46) ∧
    decodeTableWord 20 0b0000_00111111_00000000 = some (.peekAudMisc 3) ∧
    decodeTableWord 20 0b0001_00111111_01000111 = some (.pokeAudMisc 3 0x47) := by decide

/-- Format N, MPAN and MSTEREO (R53, R54). -/
theorem test_decode_mixer :
    decodeTableWord 20 0b0000_01000001_00000000 = some (.peekAtten 1) ∧
    decodeTableWord 20 0b0001_01000011_10000000 = some (.pokeAtten 3 0x80) ∧
    decodeTableWord 20 0b0000_01000100_00000000 = some (.peekMpan) ∧
    decodeTableWord 20 0b0001_01000100_11111111 = some (.pokeMpan 0xFF) ∧
    decodeTableWord 20 0b0000_01010000_00000000 = some (.peekMstereo) ∧
    decodeTableWord 20 0b0001_01010000_00010001 = some (.pokeMstereo 0x11) := by decide

/-- The display registers and format P (R53, R54). -/
theorem test_decode_display :
    decodeTableWord 20 0b0001_10010010_00001101 = some (.pokeDispctl 0x0D) ∧
    decodeTableWord 20 0b0001_10010100_00111010 = some (.pokeDispadrl 0x3A) ∧
    decodeTableWord 20 0b0001_10010101_11000000 = some (.pokeDispadrh 0xC0) ∧
    decodeTableWord 20 0b0000_10100011_00000000 = some (.peekGreen 3) ∧
    decodeTableWord 20 0b0001_10101010_10101011 = some (.pokeGreen 10 0xAB) ∧
    decodeTableWord 20 0b0000_10110011_00000000 = some (.peekBluered 3) ∧
    decodeTableWord 20 0b0001_10111111_01011100 = some (.pokeBluered 15 0x5C) := by decide

/-- The serial registers (R54). -/
theorem test_decode_serial :
    decodeTableWord 20 0b0000_10001100_00000000 = some (.peekSerctl) ∧
    decodeTableWord 20 0b0001_10001100_01001000 = some (.pokeSerctl 0x48) ∧
    decodeTableWord 20 0b0000_10001101_00000000 = some (.peekSerdat) ∧
    decodeTableWord 20 0b0001_10001101_10100101 = some (.pokeSerdat 0xA5) := by decide

/-- The system and auxiliary registers (R54). -/
theorem test_decode_system :
    decodeTableWord 20 0b0000_10000000_00000000 = some (.peekIntrst) ∧
    decodeTableWord 20 0b0001_10000000_00000010 = some (.pokeIntrst 2) ∧
    decodeTableWord 20 0b0000_10000001_00000000 = some (.peekIntset) ∧
    decodeTableWord 20 0b0001_10000001_01000000 = some (.pokeIntset 0x40) ∧
    decodeTableWord 20 0b0000_10000100_00000000 = some (.peekMagrdy0) ∧
    decodeTableWord 20 0b0000_10000101_00000000 = some (.peekMagrdy1) ∧
    decodeTableWord 20 0b0000_10000110_00000000 = some (.peekAudin) ∧
    decodeTableWord 20 0b0001_10000111_00000010 = some (.pokeSysctl1 2) ∧
    decodeTableWord 20 0b0000_10001000_00000000 = some (.peekMikeyhrev) ∧
    decodeTableWord 20 0b0001_10001001_00000001 = some (.pokeMikeysrev 1) ∧
    decodeTableWord 20 0b0001_10001010_00011010 = some (.pokeIodir 0x1A) ∧
    decodeTableWord 20 0b0000_10001011_00000000 = some (.peekIodat) ∧
    decodeTableWord 20 0b0001_10001011_00010010 = some (.pokeIodat 0x12) ∧
    decodeTableWord 20 0b0001_10010000_00000000 = some (.pokeSdoneack 0) ∧
    decodeTableWord 20 0b0001_10010001_00000000 = some (.pokeCpusleep 0) ∧
    decodeTableWord 20 0b0001_10010011_00101001 = some (.pokePbkup 0x29) ∧
    decodeTableWord 20 0b0001_10011100_00000111 = some (.pokeMtest0 7) ∧
    decodeTableWord 20 0b0001_10011101_00001000 = some (.pokeMtest1 8) ∧
    decodeTableWord 20 0b0001_10011110_00001001 = some (.pokeMtest2 9) := by decide

/-- The illegal PEEK blocks, most at their last offset (R54, 45_system_registers.md R155). -/
theorem test_decode_illegal_peeks :
    decodeTableWord 20 0b0000_01000101_00000000 = some (.peekIllegal45) ∧
    decodeTableWord 20 0b0000_01010001_00000000 = some (.peekIllegal51) ∧
    decodeTableWord 20 0b0000_10000111_00000000 = some (.peekIllegal87) ∧
    decodeTableWord 20 0b0000_10001001_00000000 = some (.peekIllegal89) ∧
    decodeTableWord 20 0b0000_10001010_00000000 = some (.peekIllegal8A) ∧
    decodeTableWord 20 0b0000_01000111_00000000 = some (.peekIllegal46 0x47) ∧
    decodeTableWord 20 0b0000_01001111_00000000 = some (.peekIllegal48 0x4F) ∧
    decodeTableWord 20 0b0000_01010011_00000000 = some (.peekIllegal52 0x53) ∧
    decodeTableWord 20 0b0000_01010111_00000000 = some (.peekIllegal54 0x57) ∧
    decodeTableWord 20 0b0000_01011111_00000000 = some (.peekIllegal58 0x5F) ∧
    decodeTableWord 20 0b0000_01111111_00000000 = some (.peekIllegal60 0x7F) ∧
    decodeTableWord 20 0b0000_10000011_00000000 = some (.peekIllegal82 0x83) ∧
    decodeTableWord 20 0b0000_10001111_00000000 = some (.peekIllegal8E 0x8F) ∧
    decodeTableWord 20 0b0000_10010000_00000000 = some (.peekIllegal90 0x90) ∧
    decodeTableWord 20 0b0000_10010101_00000000 = some (.peekIllegal90 0x95) ∧
    decodeTableWord 20 0b0000_10011111_00000000 = some (.peekIllegal90 0x9F) ∧
    decodeTableWord 20 0b0000_11111111_00000000 = some (.peekIllegalC0 0xFF) := by decide

/-- The illegal POKE blocks, most at their first offset (R54, 45_system_registers.md R155). -/
theorem test_decode_illegal_pokes :
    decodeTableWord 20 0b0001_01000101_00000001 = some (.pokeIllegal45 1) ∧
    decodeTableWord 20 0b0001_01010001_00000001 = some (.pokeIllegal51 1) ∧
    decodeTableWord 20 0b0001_10000110_00000001 = some (.pokeIllegal86 1) ∧
    decodeTableWord 20 0b0001_10001000_00000001 = some (.pokeIllegal88 1) ∧
    decodeTableWord 20 0b0001_10011111_00000001 = some (.pokeIllegal9F 1) ∧
    decodeTableWord 20 0b0001_01000110_00000001 = some (.pokeIllegal46 0x46 1) ∧
    decodeTableWord 20 0b0001_01001000_00000001 = some (.pokeIllegal48 0x48 1) ∧
    decodeTableWord 20 0b0001_01010010_00000001 = some (.pokeIllegal52 0x52 1) ∧
    decodeTableWord 20 0b0001_01010100_00000001 = some (.pokeIllegal54 0x54 1) ∧
    decodeTableWord 20 0b0001_01011000_00000001 = some (.pokeIllegal58 0x58 1) ∧
    decodeTableWord 20 0b0001_01100000_00000001 = some (.pokeIllegal60 0x60 1) ∧
    decodeTableWord 20 0b0001_10000010_00000001 = some (.pokeIllegal82 0x82 1) ∧
    decodeTableWord 20 0b0001_10000101_00000001 = some (.pokeIllegal84 0x85 1) ∧
    decodeTableWord 20 0b0001_10001110_00000001 = some (.pokeIllegal8E 0x8E 1) ∧
    decodeTableWord 20 0b0001_10010111_00000001 = some (.pokeIllegal96 0x97 1) ∧
    decodeTableWord 20 0b0001_10011011_00000001 = some (.pokeIllegal98 0x9B 1) ∧
    decodeTableWord 20 0b0001_11000000_00000001 = some (.pokeIllegalC0 0xC0 1) := by decide

/-- The command classes 2 to 9 (30_encoding.md R51), ignored bits either way. -/
theorem test_decode_host_commands :
    decodeTableWord 20 0b0010_00000000_00000000 = some (.update) ∧
    decodeTableWord 20 0b0010_11111111_11111111 = some (.update) ∧
    decodeTableWord 20 0b0011_00000000_10100000 = some (.advance 160) ∧
    decodeTableWord 20 0b0011_11111111_00000001 = some (.advance 0xFF01) ∧
    decodeTableWord 20 0b0100_00000000_00000000 = some (.reset) ∧
    decodeTableWord 20 0b0101_00000001_01000001 = some (.rxInject 0x0141) ∧
    decodeTableWord 20 0b0110_00000000_00000000 = some (.bindSurface) ∧
    decodeTableWord 20 0b0111_00000000_00000001 = some (.setSkip true) ∧
    decodeTableWord 20 0b0111_11111111_11111110 = some (.setSkip false) ∧
    decodeTableWord 20 0b1000_00000000_00000000 = some (.setEpoch) ∧
    decodeTableWord 20 0b1001_00000000_00000001 = some (.setCallback true) ∧
    decodeTableWord 20 0b1001_00000000_00000010 = some (.setCallback false) := by decide

/-- Classes 0xA and 0xF are refused by their class (R51). -/
theorem test_decode_reserved :
    decode 0xA0000#20 = .error (.reservedClass 0xA) ∧ decode 0xFFFFF#20 = .error (.reservedClass 0xF) :=
  ⟨rfl, rfl⟩

/-- The host's decoder reads a table word, and refuses a reserved one. -/
theorem test_decodeTableWord :
    decodeTableWord 20 0x10401 = some (.pokeTimBkup 1 1) ∧ decodeTableWord 20 0xA0000 = none := by decide

/-! ### Running single steps -/

/-- The state after a command, or the state itself where it does not complete. -/
def after (i : Instr) (s : State) : State :=
  match exec i s with
  | .next t => t
  | _ => s

/-- A reset state at a cycle. -/
def at_ (c : Stamp) : State := { State.reset with cycle := c }

/-- A counter that counts and reloads. -/
def running (backup : Byte) (linking : BitVec 3) (current : Int) (lastClock : Stamp) : Counter :=
  { Counter.zero with
    backup := backup, enableCount := true, enableReload := true, linking := linking, current := current
    lastClock := lastClock }

/-- The example of 40_update_dispatcher.md R67: only Timer 1, ten ticks, one underflow. -/
def timer1 : State := (at_ 1160).setCounter (.timer 1) (running 9 0 9 1000)

theorem test_update_r67_example :
    (updatePass timer1).counter (.timer 1) =
      { running 9 0 9 1160 with done := true, borrowIn := true, borrowOut := true } ∧
    (updatePass timer1).nextEvent = 1320 := by decide +kernel

/-- A pass with no counter enabled leaves `next_event` = 0xFFFFFFFF (R67). -/
theorem test_update_idle : (updatePass (at_ 77)).nextEvent = 0xFFFFFFFF#32 := by decide +kernel

/-- Right after the pass in which Timer 1 underflowed, `PEEK TIM1CTLB -> 0x0B` (41_timers.md R98). -/
theorem test_peek_timCtlb_example : (after (.peekTimCtlb 1) (updatePass timer1)).result = some 0x0B := by decide +kernel

/-- `POKE TIM1CTLA, 0x98` at cycle 1000 (R95); `PEEK TIM1CTLA -> 0x98` after 0xD8 (R94). -/
theorem test_timCtla_example :
    (after (.pokeTimCtla 1 0x98) (at_ 1000)).counter (.timer 1) = running 0 0 0 1000 ∧
    (after (.pokeTimCtla 1 0x98) (at_ 1000)).intMask = 0x02 ∧
    (after (.peekTimCtla 1) (after (.pokeTimCtla 1 0xD8) (at_ 1000))).result = some 0x98 := by decide

/-- `PEEK TIM1CNT -> 6` at cycle 1050, `last_clock` 1048 (R96). -/
theorem test_peek_timCnt_example :
    let t := after (.peekTimCnt 1) ((at_ 1050).setCounter (.timer 1) (running 0 0 9 1000))
    t.result = some 6 ∧ (t.timer 1).ctr.lastClock = 1048 := by decide +kernel

/-- A rebase in a pass: `cycle` drops by `REBASE_DELTA`, the age of a stamp stays (40_update_dispatcher.md R69). -/
theorem test_rebase :
    let t := updatePass ((at_ 0xF0000001).setCounter (.timer 6) (running 9 6 9 0xF0000000))
    t.cycle = 0x70000001#32 ∧ (t.timer 6).ctr.lastClock = 0x70000000#32 := by decide +kernel

/-- Timer 1 linked never counts (41_timers.md R87). -/
theorem test_timer1_linked :
    ((updatePass ((at_ 100000).setCounter (.timer 1) (running 0 7 0 0))).timer 1).ctr.current = 0 := by decide +kernel

/-- The LFSR examples of 42_audio.md R101. -/
theorem test_lfsr_examples :
    lfsrNext Params.default 0x002001 = 0x002002#21 ∧ lfsrNext Params.default 0x002002 = 0x002005#21 ∧ lfsrNext Params.default 0 = 0x001#21 ∧
    lfsrNext Params.default 0xFFF = 0xFFF#21 := by decide

/-- The integrate examples of R103: 100 + 100 is clamped to 127, 0 - (-128) to 127; -128 negates to itself. -/
theorem test_output_examples :
    ({ AudioChannel.zero with integrate := true, output := 100, volume := 100, waveshaper := 1 }).updateOutput.output
      = 127#8 ∧
    ({ AudioChannel.zero with integrate := true, volume := 0x80 }).updateOutput.output = 127#8 ∧
    ({ AudioChannel.zero with volume := 0x80 }).updateOutput.output = 0x80#8 := by decide

/-- The mixer example of R104 and R123: 93 and 93, then 50 and 0, with the deltas -43 and -93. -/
def panned : State :=
  { (State.reset.setChannel 0 { AudioChannel.zero with output := 100 }).setAttenuation 0 0xFF with
    mixer := { atten := #v[0xFF, 0, 0, 0], stereoEnable := 0x11, pan := 0x11, lastLeft := 93, lastRight := 93
               mixEpoch := 0 } }

theorem test_mix_examples :
    panned.leftSum = 93 ∧ panned.rightSum = 93 ∧
    (after (.pokeAtten 0 0x80) panned).events = [.audioDelta .left 0 (-43), .audioDelta .right 0 (-93)] := by decide

/-- `POKE AUD0OUTVAL, 0x20` emits left before right at offset 400 >> 2 (R111). -/
theorem test_poke_audOutval_example :
    (after (.pokeAudOutval 0 0x20)
      { at_ 400 with mixer := { Mixer.zero with stereoEnable := 0x11 } }).events =
      [.audioDelta .left 100 32, .audioDelta .right 100 32] := by decide

/-- `POKE AUD0CTL, 0xF8` reads 0xB8 (R116). -/
theorem test_audCtl_example : (after (.peekAudCtl 0) (after (.pokeAudCtl 0 0xF8) (at_ 0))).result = some 0xB8 := by
  decide

/-- `waveshaper` 0x002155: SHFTFB 0x01, L8SHFT 0x55, MISC 0x13 after an underflow (R108, R112, R120). -/
theorem test_waveshaper_examples :
    let s := State.reset.setChannel 0
      { AudioChannel.zero with
        waveshaper := 0x002155, ctr := { Counter.zero with borrowIn := true, borrowOut := true } }
    (after (.peekAudShftfb 0) s).result = some 0x01 ∧ (after (.peekAudL8shft 0) s).result = some 0x55 ∧
    (after (.peekAudMisc 0) s).result = some 0x13 := by decide

/-- The state of 43_display.md R131's example: B = 104, `line_count` = 101, `disp_addr` = 0xC03A. -/
def burstStart : State :=
  { State.reset.setCounter (.timer 2) { Counter.zero with backup := 104 } with
    display := { Display.zero with
      dispAddr := 0xC03A, lineCount := 101, dmaEnable := true, surfaceBound := true } }

theorem test_lineStrobe_example :
    let t := renderLine burstStart
    t.display.rest = true ∧ t.display.lineCount = 100 ∧ t.display.dmaLines = 101 ∧ t.display.dmaAddr = 0xC088#16 ∧
    t.display.outLine = 1 := by decide +kernel

/-- Byte 0x1F gives palette entries 1 and 15, flipped 15 and 1 (R132). -/
theorem test_pixelPair_example :
    pixelPair false 0x1F = (1#4, 15#4) ∧ pixelPair true 0x1F = (15#4, 1#4) := by decide

/-- The flipped burst starts at the aligned address plus 3 (20_memory.md R39). -/
theorem test_burstAddr : burstAddr Params.default 0xC03A false = 0xC038#16 ∧ burstAddr Params.default 0xC03A true = 0xC03B#16 := by decide

/-- The overflow guard emits the diagnostic and writes nothing (R131). -/
theorem test_lineOverflow :
    let t := renderLine
      { burstStart with display := { burstStart.display with lineCount := 50, dmaLines := 5, outLine := 102 } }
    t.events = [.diag .lineOverflow] ∧ t.surface = [] ∧ t.display.dmaLines = 4 := by decide

/-- The palette examples of R138 to R141. -/
theorem test_palette_examples :
    let t := after (.pokeBluered 3 0x5C) (after (.pokeGreen 3 0xAB) State.reset)
    (after (.peekGreen 3) t).result = some 0x0B ∧ (after (.peekBluered 3) t).result = some 0x5C ∧
    (t.palEntry 3).index = 0xCB5#12 := by decide

/-- `POKE SERDAT, 0x5A` on an empty queue (44_uart.md R154). -/
theorem test_poke_serdat_example :
    let u := (after (.pokeSerdat 0x5A) State.reset).uart
    u.txData = 0x005A ∧ u.txCount = 11 ∧ u.rxCount = 11 ∧ u.rxqOut = 31 ∧ u.slot 31 = 0x005A ∧ u.rxqWaiting = 1 := by
  decide

/-- Status right after that write: 0x00 (R151); `PEEK SERCTL` after reset: 0xA0. -/
theorem test_peek_serctl_examples :
    (after .peekSerctl (after (.pokeSerdat 0x5A) State.reset)).result = some 0x00 ∧
    (after .peekSerctl State.reset).result = some 0xA0 := by decide

/-- A word from the cable goes to the tail (R149). -/
theorem test_rxInject_example :
    let u := (after (.rxInject 0x0141) State.reset).uart
    u.slot 0 = 0x0141 ∧ u.rxqIn = 1 ∧ u.rxActive = true ∧ u.rxCount = 11 := by decide

/-- Writing TXBRK loops a break word back and arms the transmitter (R152). -/
theorem test_poke_serctl_break :
    let u := (after (.pokeSerctl 0x02) State.reset).uart
    u.txActive = true ∧ u.slot 31 = 0x8000 ∧ u.sendBreak = true := by decide

/-- The serial level raises bit 4 in the next pass, and again after an acknowledgement (R147). -/
theorem test_serialLevel_example :
    let t := updatePass (after (.pokeSerctl 0x80) State.reset)
    t.intStatus = 0x10 ∧ (updatePass (after (.pokeIntrst 0x10) t)).intStatus = 0x10 := by decide +kernel

/-- `int_status` = 0x12, `POKE INTRST, 0x02` leaves 0x10 (45_system_registers.md R157). -/
theorem test_poke_intrst_example :
    (after (.pokeIntrst 0x02) { State.reset with intStatus := 0x12 }).intStatus = 0x10 := by decide

/-- `PEEK 0xC0 -> 0xFF`, `PEEK DISPCTL -> 0xFF`, `PEEK MIKEYHREV -> 0x01` (R155, R164), run by `step`. -/
def peeked (w : Nat) : Option Byte :=
  match step (State.reset.withFetchWord 20 w) with
  | .next t => t.result
  | _ => none

theorem test_step_illegal_examples :
    peeked 0x0C000 = some 0xFF ∧ peeked 0x09200 = some 0xFF ∧ peeked 0x08800 = some 0x01 := by decide

/-- `POKE SYSCTL1, 0x00` resets, halts and emits three events; 0x02 only the strobe (R160). -/
theorem test_poke_sysctl1_examples :
    (after (.pokeSysctl1 0x00) State.reset).halt = true ∧
    (after (.pokeSysctl1 0x00) State.reset).events =
      [.systemReset, .diag .powerDown, .cartAddrStrobe false] ∧
    (after (.pokeSysctl1 0x02) State.reset).events = [.cartAddrStrobe false] := by decide

/-- The I/O port examples of R162 and R163. -/
theorem test_ioPort_examples :
    (after (.pokeIodat 0x12) { State.reset with iodir := 0x1A }).events =
      [.cartAddrData true, .cartBank1WriteEnable true] ∧
    (after .peekIodat State.reset).result = some 0x11 ∧
    (after .peekIodat { State.reset with
      iodir := 0x08, iodat := 0x08, display := { Display.zero with rest := true } }).result = some 0x11 ∧
    (after .peekIodat { State.reset with iodir := 0x08, iodat := 0x08 }).result = some 0x19 := by decide

/-- A RESET leaves `halt` and `cycle` (70_reset_and_hazards.md R178). -/
theorem test_reset_example :
    let t := after .reset { at_ 500 with halt := true, intStatus := 0xFF }
    t.halt = true ∧ t.cycle = 500 ∧ t.intStatus = 0 := by decide

/-- The parameters after reset are the table of 00_scope.md R10. -/
theorem test_default_parameters :
    let p := State.reset.params
    (p.lineBytes = 80 ∧ p.linePixels = 160 ∧ p.restOffsets = [2, 3, 4] ∧ p.burstOffset = 3 ∧ p.dispadrMask = 0xFFFC) ∧
    (p.rxqDepth = 32 ∧ p.uartTxPeriod = 11 ∧ p.uartRxPeriod = 11 ∧ p.uartRxNextDelay = 44 ∧ p.uartWordW = 16 ∧
      p.breakCode = 0x8000) ∧
    (p.rebaseThreshold = 0xF0000000 ∧ p.rebaseDelta = 0x80000000 ∧ p.mikeyBase = 0xFD00 ∧ p.hwrev = 0x01 ∧
      p.ioIn = 0x11 ∧ p.mstereoXor = 0x00) ∧
    p.colourMap 0xABC = 0xABC := by decide

/-- A block with 9-bit serial words, its alternative stereo sense and no INTSET (R10, 93 U9): the word is cut, the
byte inverted in the mask, the accesses illegal. -/
theorem test_other_parameters :
    let s := { State.reset with
      params := { Params.default with uartWordW := 9, mstereoXor := 0xFF, intsetMapped := false } }
    (after (.rxInject 0x8141) s).uart.slot 0 = 0x0141 ∧ (after (.pokeMstereo 0xEE) s).mixer.stereoEnable = 0x11 ∧
    (after .peekIntset s).result = some 0xFF ∧ (after (.pokeIntset 0x80) s).intStatus = 0 := by decide

/-- `ADVANCE 160` at 1000 gives 1160 (40_update_dispatcher.md R79); `POKE16 DISPADR` writes both halves (R65). -/
theorem test_advance_and_poke16 :
    (after (.advance 160) (at_ 1000)).cycle = 1160 ∧
    (after (.pokeDispadrh 0xC0) (after (.pokeDispadrl 0x3A) State.reset)).display.dispAddr = 0xC03A#16 ∧
    poke16Dispadr 0xC03A = [.pokeDispadrl 0x3A, .pokeDispadrh 0xC0] := by decide

/-- Memory keeps its canonical form: a zero written removes the entry, another byte is put in order. -/
theorem test_memory_canonical :
    Memory.write (Memory.write [(5, 1)] 3 2) 5 0 = [(3, 2)] ∧ Memory.read [(3, 2)] 5 = 0 := by decide

/-! ### Witnesses for the hypotheses of the statements -/

theorem witness_EncodeThenDecode :
    (Instr.peekIllegal46 0x46).wellFormed = true ∧ (Instr.peekIllegal46 0x47).wellFormed = true ∧
    (Instr.pokeIllegalC0 0xFF 1).wellFormed = true ∧ (Instr.advance 0xFFFF).wellFormed = true := by decide

theorem witness_DecodedWordLiesInItsRow : decode 0x0C0FF#20 = .ok (.peekIllegalC0 0xC0) := rfl

theorem witness_OneRowPerWord : (CmdWord.cls 0x00000#20).toNat ≤ 9 ∧ (CmdWord.cls 0x9FFFF#20).toNat ≤ 9 := by decide

theorem witness_DecoderIsTotal :
    (CmdWord.cls 0x9FFFF#20).toNat ≤ 9 ∧ 9 < (CmdWord.cls 0xA0000#20).toNat ∧ 9 < (CmdWord.cls 0xFFFFF#20).toNat ∧
    (State.reset.withFetchWord 20 0xA0000).pending = [.command 0xA0000#20] := by decide

theorem witness_IgnoredBitsDoNotMatter : (0x01#8).getLsbD 0 = (0xFF#8).getLsbD 0 ∧ (0x00#8).getLsbD 0 = (0xFE#8).getLsbD 0 := by
  decide

theorem witness_StepRunsTheDecodedCommand :
    ({ State.reset with pending := [.command 0x20000, .command 0x40000] }).pending =
      .command 0x20000 :: [.command 0x40000] ∧
    decode 0x20000#20 = .ok .update := ⟨rfl, rfl⟩

theorem witness_StepHostMemoryWrite :
    let s := { State.reset with mem := [(3, 7), (65535, 1)], pending := [.memWrite 0xFFFF 0] }
    Memory.wf s.mem = true ∧ s.pending = .memWrite 0xFFFF 0 :: [] ∧ (3 : BitVec 16) ≠ 0xFFFF := by decide

/-- The UART after reset, at the default parameters. -/
def idleUart : Uart := Uart.zero Params.default

/-- The UART with `k` words waiting and the receive countdown at `r`. -/
def waiting (k r : Nat) : Uart :=
  { idleUart with rxqWaiting := k, rxqIn := k % 32, rxActive := decide (0 < k), rxCount := r }

/-- A UART that transmits, its countdown at `n`. -/
def sending (u : Uart) (n : Nat) (brk : Bool) : Uart := { u with txActive := true, txCount := n, sendBreak := brk }

theorem waiting_queueOk : ∀ k ∈ [0, 1, 2, 31, 32], (waiting k 0).QueueOk Params.default := by
  intro k hk
  refine ⟨?_, ?_, ?_, ?_, ?_, ?_⟩ <;> revert k <;> decide

theorem witness_QueueInsertion :
    ((waiting 32 0).QueueOk Params.default ∧ (waiting 32 0).rxqWaiting = Params.default.rxqDepth) ∧
    ((waiting 31 0).QueueOk Params.default ∧ (waiting 31 0).rxqWaiting < Params.default.rxqDepth) ∧
    ((waiting 0 0).QueueOk Params.default ∧ (waiting 0 0).rxqWaiting < Params.default.rxqDepth) :=
  ⟨⟨waiting_queueOk 32 (by decide), by decide⟩, ⟨waiting_queueOk 31 (by decide), by decide⟩,
    ⟨waiting_queueOk 0 (by decide), by decide⟩⟩

theorem witness_SerialTickReceives :
    (waiting 0 0).QueueOk Params.default ∧ (waiting 0 0).rxActive = false ∧ (waiting 0 0).txActive = false ∧
    (waiting 2 0).QueueOk Params.default ∧ (waiting 2 0).rxActive = true ∧ (waiting 2 0).rxCount = 0 ∧
    (waiting 1 1).rxActive = true ∧ (waiting 1 1).rxCount ≠ 0 ∧
    ¬((sending (waiting 2 0) 0 false).txActive = true ∧ (sending (waiting 2 0) 0 false).txCount = 0 ∧
      (sending (waiting 2 0) 0 false).sendBreak = true) :=
  ⟨waiting_queueOk 0 (by decide), by decide, by decide, waiting_queueOk 2 (by decide), by decide, by decide,
    by decide, by decide, by decide⟩

theorem sending_queueOk {u : Uart} {p : Params} (h : u.QueueOk p) (n : Nat) (brk : Bool) :
    (sending u n brk).QueueOk p := ⟨h.slots, h.inIndex, h.outIndex, h.tail, h.room, h.active⟩

theorem witness_SerialTickTransmits :
    ((sending idleUart 1 false).txActive = true ∧ (sending idleUart 1 false).txCount ≠ 0) ∧
    ((sending (waiting 32 1) 0 true).txActive = true ∧ (sending (waiting 32 1) 0 true).txCount = 0 ∧
      (sending (waiting 32 1) 0 true).sendBreak = true ∧
      ((sending (waiting 32 1) 0 true).receiveTick Params.default).rxqWaiting = Params.default.rxqDepth) ∧
    ((sending (waiting 32 0) 0 true).QueueOk Params.default ∧
      ((sending (waiting 32 0) 0 true).receiveTick Params.default).rxqWaiting < Params.default.rxqDepth) ∧
    idleUart.txActive = false :=
  ⟨by decide, by decide, ⟨sending_queueOk (waiting_queueOk 32 (by decide)) 0 true, by decide⟩, by decide⟩

theorem witness_LoopbackDelivers :
    ((waiting 0 0).QueueOk Params.default ∧ (waiting 0 0).rxqWaiting < Params.default.rxqDepth ∧
      (waiting 0 0).sendBreak = false ∧ Params.default.uartTxPeriod ≤ Params.default.uartRxPeriod) ∧
    ((waiting 31 0).QueueOk Params.default ∧ (waiting 31 0).rxqWaiting < Params.default.rxqDepth ∧
      (waiting 31 0).sendBreak = false) ∧
    exec (.pokeSerdat 0x5A) State.reset = .next (after (.pokeSerdat 0x5A) State.reset) :=
  ⟨⟨waiting_queueOk 0 (by decide), by decide, by decide, by decide⟩,
    ⟨waiting_queueOk 31 (by decide), by decide, by decide⟩, rfl⟩

theorem witness_ResetCommand : State.reset.params.ioIn = Params.default.ioIn := rfl

/-- The state after reset of a block whose INTSET is unmapped. -/
def unmapped : State := { State.reset with params := { Params.default with intsetMapped := false } }

theorem witness_InterruptStatusAccess :
    State.reset.params.intsetMapped = true ∧ unmapped.params.intsetMapped = false := ⟨rfl, rfl⟩

theorem witness_PowerControlPoke : (0x02#8).getLsbD 1 = true ∧ (0x01#8).getLsbD 1 = false := by decide

theorem witness_IoPortPeek : (0x08#8).getLsbD 3 = true ∧ (0xF7#8).getLsbD 3 = false := by decide

theorem witness_IllegalOffsets :
    (0x45#8 ≤ 0x45#8 ∧ 0x45#8 ≤ 0x4F#8) ∧ (0x45#8 ≤ 0x4F#8 ∧ 0x4F#8 ≤ 0x4F#8) ∧ (0x51#8 ≤ 0x7F#8 ∧ 0x7F#8 ≤ 0x7F#8) ∧
    (0x96#8 ≤ 0x9B#8 ∧ 0x9B#8 ≤ 0x9B#8) ∧ 0xC0#8 ≤ 0xC0#8 ∧ 0xC0#8 ≤ 0xFF#8 ∧
    (0x90#8 ≤ 0x95#8 ∧ 0x95#8 ≤ 0x95#8) ∧ (0x9C#8 ≤ 0x9E#8 ∧ 0x9E#8 ≤ 0x9E#8) := by decide

theorem witness_LfsrStep :
    Params.default.lfsrTable = Params.default.lfsrTable ∧ (0x000ABC#21).extractLsb' 12 9 = 0 := by decide

theorem witness_ChannelOutput :
    ({ AudioChannel.zero with integrate := true }).integrate = true ∧
    (({ AudioChannel.zero with waveshaper := 1 }).integrate = false ∧
      ({ AudioChannel.zero with waveshaper := 1 }).waveshaper.getLsbD 0 = true) ∧
    (AudioChannel.zero.integrate = false ∧ AudioChannel.zero.waveshaper.getLsbD 0 = false) := by decide

/-- A line strobe in the middle of a burst. -/
def midBurst (dmaLines outLine : Nat) (skip : Bool) : State :=
  { burstStart with
    display := { burstStart.display with
      lineCount := 50, dmaLines := dmaLines, outLine := outLine, skipFrame := skip } }

theorem witness_LineStrobe :
    (State.reset.display.surfaceBound = false ∧ State.reset.display.dmaEnable = false) ∧
    (burstStart.display.surfaceBound = true ∧ burstStart.display.dmaEnable = true ∧
      (burstStart.display.lineCount.toNat : Int) =
        ((burstStart.timer 2).ctr.backup.toNat : Int) - (burstStart.params.burstOffset : Int)) ∧
    (((midBurst 0 5 false).display.lineCount.toNat : Int) ≠
        (((midBurst 0 5 false).timer 2).ctr.backup.toNat : Int) - ((midBurst 0 5 false).params.burstOffset : Int) ∧
      (midBurst 0 5 false).display.dmaLines = 0 ∧
      0 < (midBurst 1 102 false).display.dmaLines ∧ Config.lines ≤ (midBurst 1 102 false).display.outLine ∧
      0 < (midBurst 1 101 true).display.dmaLines ∧ (midBurst 1 101 true).display.outLine < Config.lines ∧
      (midBurst 1 101 true).display.skipFrame = true) := by decide

/-- The guard fires on an arming strobe too, with the address at the burst's start (vector V34). -/
theorem test_lineStrobe_overflow_on_arming :
    let t := renderLine { burstStart with display := { burstStart.display with outLine := 102 } }
    t.display.dmaLines = 101 ∧ t.display.outLine = 102 ∧ t.display.rest = true ∧
    t.events = burstStart.events ++ [.diag .lineOverflow] := by decide +kernel

theorem witness_CopiedScanline :
    159 < State.reset.params.linePixels ∧ (1 : Nat) ≠ State.reset.display.outLine := by decide

theorem witness_BurstDrawsTheFrame :
    burstStart.display.surfaceBound = true ∧ burstStart.display.dmaEnable = true ∧
    burstStart.display.skipFrame = false ∧ burstStart.display.outLine = 0 ∧
    0 < burstStart.display.lineCount.toNat ∧
    burstStart.display.lineCount.toNat + burstStart.params.burstOffset = (burstStart.timer 2).ctr.backup.toNat ∧
    (102 : Nat) ≤ 103 := by decide

/-- One running counter, `age` cycles after its last sync: due 160 cycles after it. -/
def aged (ref : CounterRef) (reload : Bool) (age : Stamp) : State :=
  (at_ (1000 + age)).setCounter ref { running 9 0 9 1000 with enableReload := reload }

/-- Before the due cycle, at it, just less than a period late and a whole period late; and a count of -20, one
cycle before its next tick and at it. -/
theorem witness_ClockedCounterSchedule :
    ([159, 160, 319, 320].all fun age : Nat => [CounterRef.timer 0, .timer 6, .audio 3].all fun ref =>
      [true, false].all fun reload =>
        let s := aged ref reload (BitVec.ofNat 32 age)
        s.predictCounting ref && s.predictClocked ref && (s.counter ref).current == 9 &&
          (s.cycle - (s.counter ref).lastClock).toNat == age) = true ∧
    ([15, 16].all fun age : Nat =>
      let s := (at_ (1000 + BitVec.ofNat 32 age)).setCounter (.timer 1) (running 9 0 (-20) 1000)
      s.predictCounting (.timer 1) && s.predictClocked (.timer 1) && (s.counter (.timer 1)).current == -20) = true ∧
    ((updatePass (aged (.timer 6) true 320)).counter (.timer 6)).current < 0 ∧
    exec .update (aged (.timer 6) true 160) = .next (updatePass (aged (.timer 6) true 160)) :=
  ⟨by decide +kernel, by decide +kernel, by decide +kernel, rfl⟩

/-- Three periods late: one underflow now, the count left at -11, then one underflow a tick, 9 made up each time
(40_update_dispatcher.md R72, 70_reset_and_hazards.md R181 (4)). -/
theorem test_deferred_underflows :
    let t := updatePass (aged (.timer 1) true 480)
    let u := updatePass { t with cycle := t.nextEvent }
    (t.counter (.timer 1)).current = -11 ∧ (t.counter (.timer 1)).borrowOut = true ∧
    t.nextEvent - t.cycle = 16 ∧ (u.counter (.timer 1)).current = -2 ∧ (u.counter (.timer 1)).borrowOut = true := by
  decide +kernel

/-- Timer 1 at `age` cycles after its last sync, and Timer 3 linked to it with a count. -/
def linkedPair (age : Stamp) (count : Int) : State :=
  (aged (.timer 1) true age).setCounter (.timer 3) (running 5 7 count 0)

theorem witness_LinkedCounterFollowsItsSource :
    linkSource (.timer 3) = some (.timer 1) ∧ linkSource (.audio 0) = some (.timer 7) ∧
    (((linkedPair 160 0).counter (.timer 3)).counting = true ∧
      ((linkedPair 160 0).counter (.timer 3)).linking = 7 ∧
      ((linkedPair 160 0).counter (.timer 3)).current ≤ 0) ∧
    0 < ((linkedPair 160 1).counter (.timer 3)).current ∧
    ((updatePass (linkedPair 160 0)).counter (.timer 1)).borrowOut = true ∧
    ((updatePass (linkedPair 159 0)).counter (.timer 1)).borrowOut = false := by decide +kernel

theorem witness_StoppedCounterStands :
    State.reset.predictCounting (.audio 0) = false ∧
    ((at_ 100000).setCounter (.timer 1) (running 0 7 0 0)).predictCounting (.timer 1) = true ∧
    (((at_ 100000).setCounter (.timer 1) (running 0 7 0 0)).counter (.timer 1)).linking = 7 := by decide

/-- No counter exceeds 255 in the example state of R67. -/
theorem timer1_counts : CountsInRange timer1 := by
  intro ref
  cases ref with
  | timer n => revert n; decide
  | audio c => revert c; decide

theorem defaults_fit : RebaseFits Params.default := ⟨by decide, by decide, by decide⟩

/-- A pass in which Timer 1 underflows under its mask bit, one in which the line strobe's and the serial level's
bits rise. -/
theorem witness_InterruptSources :
    exec .update { aged (.timer 1) true 160 with intMask := 0x02 } =
      .next (updatePass { aged (.timer 1) true 160 with intMask := 0x02 }) ∧
    (updatePass { aged (.timer 1) true 160 with intMask := 0x02 }).intStatus = 0x02 ∧
    (updatePass { aged (.timer 1) true 160 with intMask := 0x00 }).intStatus = 0x00 :=
  ⟨rfl, by decide +kernel, by decide +kernel⟩

theorem witness_NextEventIsTheEarliestDue :
    exec .update timer1 = .next (updatePass timer1) ∧ CountsInRange timer1 ∧ RebaseFits timer1.params ∧
    (updatePass timer1).predictCounting (.timer 1) = true ∧ (updatePass timer1).predictClocked (.timer 1) = true :=
  ⟨rfl, timer1_counts, defaults_fit, by decide +kernel, by decide +kernel⟩

theorem witness_EarlyPassIsQuiet :
    exec .update timer1 = .next (updatePass timer1) ∧ CountsInRange timer1 ∧ RebaseFits timer1.params ∧
    (updatePass timer1).cycle ≤ 1319#32 ∧ 1319#32 < (updatePass timer1).nextEvent ∧
    1319#32 ≤ timer1.params.rebaseThreshold ∧
    exec .update { updatePass timer1 with cycle := 1319 } =
      .next (updatePass { updatePass timer1 with cycle := 1319 }) :=
  ⟨rfl, timer1_counts, defaults_fit, by decide +kernel, by decide +kernel, by decide +kernel, rfl⟩

theorem witness_RebasePreservesDeltas :
    (at_ 0xF0000000).cycle ≤ (at_ 0xF0000000).params.rebaseThreshold ∧
    (at_ 0xF0000001).params.rebaseThreshold < (at_ 0xF0000001).cycle ∧
    (at_ 0xF0000001).cycle - (at_ 0xF0000001).params.rebaseDelta ≤ (at_ 0xF0000001).params.rebaseThreshold := by decide

theorem witness_NoCommandWritesMemory : exec .update timer1 = .next (updatePass timer1) := rfl

theorem witness_InterruptStatusWriters :
    (exec (.pokeIntrst 0x80) { State.reset with intStatus := 0x80 } =
        .next (after (.pokeIntrst 0x80) { State.reset with intStatus := 0x80 }) ∧
      (0x80#8).getLsbD 7 = true ∧
      (after (.pokeIntrst 0x80) { State.reset with intStatus := 0x80 }).intStatus.getLsbD 7 = false) ∧
    (exec (.pokeIntset 0x80) State.reset = .next (after (.pokeIntset 0x80) State.reset) ∧
      State.reset.intStatus.getLsbD 7 = false ∧
      (after (.pokeIntset 0x80) State.reset).intStatus.getLsbD 7 = true) ∧
    (irqLine { State.reset with intStatus := 0x80 } = true ∧
      irqLine (after (.pokeIntrst 0x80) { State.reset with intStatus := 0x80 }) = false) ∧
    (irqLine State.reset = false ∧ irqLine (after (.pokeIntset 0x80) State.reset) = true) :=
  ⟨⟨rfl, by decide, by decide⟩, ⟨rfl, by decide, by decide⟩, by decide, by decide⟩

theorem witness_HaltAndTrace :
    exec (.pokeSysctl1 0) State.reset = .next (after (.pokeSysctl1 0) State.reset) ∧ State.reset.halt = false ∧
    (after (.pokeSysctl1 0) State.reset).halt = true :=
  ⟨rfl, by decide, by decide⟩

theorem witness_CycleMovers :
    exec (.advance 1) State.reset = .next (after (.advance 1) State.reset) := rfl

/-- A state that meets the invariant and takes a command: memory, surface, queue and a running counter. -/
def busy : State :=
  { timer1 with
    mem := [(3, 7), (65535, 1)], surface := [(0, 0xFFF)], uart := waiting 1 11
    display := { Display.zero with dmaLines := 102, outLine := 102 }
    pending := [.command 0x20000] }

theorem busy_counts : CountsInRange busy := by
  intro ref
  cases ref with
  | timer n => revert n; decide
  | audio c => revert c; decide

theorem busy_uart : busy.uart.QueueOk Params.default ∧ busy.uart.InRange Params.default ∧
    busy.uart.WordsFit Params.default :=
  ⟨⟨by decide, by decide, by decide, by decide, by decide, by decide⟩, ⟨by decide, by decide, by decide⟩,
    ⟨fun w hw => by rw [List.eq_of_mem_replicate (a := (0 : SerialWord)) (n := 32) hw]; decide, by decide, by decide⟩⟩

theorem busy_mixer : MixerCurrent busy := ⟨by decide, by decide⟩

theorem busy_inv : busy.Inv :=
  ⟨by decide, by decide, busy_uart.1, busy_uart.2.1, busy_uart.2.2, ⟨by decide, by decide⟩, busy_counts, busy_mixer⟩

theorem witness_StepKeepsInvariant :
    busy.Inv ∧ step busy = .next (updatePass { busy with pending := [], result := none }) := ⟨busy_inv, rfl⟩

end Sys2Proof.Tests
end

section
/-! The scope of a command (00_scope.md R8, R13; 20_memory.md R36): what no command writes, and what only a pass
writes. -/

namespace Sys2Proof.Machine

/-- The commands that run an Update pass: UPDATE and the two count PEEKs (40_update_dispatcher.md R67,
41_timers.md R96, 42_audio.md R118). -/
def RunsPass (i : Instr) : Prop := i = .update ∨ (∃ n, i = .peekTimCnt n) ∨ ∃ c, i = .peekAudCount c

/-- What a command without a pass leaves alone: the parameters, system memory, the surface and the host's inputs not
yet taken. -/
structure StoresKept (s t : State) : Prop where
  params : t.params = s.params
  mem : t.mem = s.mem
  surface : t.surface = s.surface
  pending : t.pending = s.pending

theorem StoresKept.reschedule {s t : State} (h : StoresKept s t) : StoresKept s t.reschedule := by
  obtain ⟨hparams, hmem, hsurface, hpending⟩ := h
  exact ⟨hparams, hmem, hsurface, hpending⟩

/-- `Mix` touches none of them (42_audio.md R104). -/
theorem StoresKept.mix {s t : State} (h : StoresKept s t) : StoresKept s (mix t) := by
  obtain ⟨hparams, hmem, hsurface, hpending⟩ := h
  obtain ⟨e, hmix⟩ := mix_changes t
  rw [hmix]
  exact ⟨hparams, hmem, hsurface, hpending⟩

/-- A command is a pass, up to the byte it returns, or it leaves the stores alone. -/
theorem exec_runsPass_or_storesKept {i : Instr} {s t : State} (h : exec i s = .next t) :
    (RunsPass i ∧ (t = updatePass s ∨ ∃ b, t = (updatePass s).returnByte b)) ∨ StoresKept s t := by
  cases i <;> obtain rfl := Host.Outcome.next.inj h
  case update => exact .inl ⟨.inl rfl, .inl rfl⟩
  case peekTimCnt n => exact .inl ⟨.inr (.inl ⟨n, rfl⟩), .inr ⟨_, rfl⟩⟩
  case peekAudCount c => exact .inl ⟨.inr (.inr ⟨c, rfl⟩), .inr ⟨_, rfl⟩⟩
  all_goals right
  case pokeAudOutval => exact .reschedule (.mix ⟨rfl, rfl, rfl, rfl⟩)
  case pokeAtten | pokeMpan | pokeMstereo => exact .mix ⟨rfl, rfl, rfl, rfl⟩
  case pokeIntset => split <;> exact ⟨rfl, rfl, rfl, rfl⟩
  case pokeSysctl1 => split <;> exact ⟨rfl, rfl, rfl, rfl⟩
  case pokeIodat => unfold State.cartEvents; dsimp only; split <;> exact ⟨rfl, rfl, rfl, rfl⟩
  -- every other command writes other fields only
  all_goals exact ⟨rfl, rfl, rfl, rfl⟩

/-- Pass or not, system memory and the inputs not yet taken stay; the surface stays where no pass runs. -/
theorem exec_keepsMemory {i : Instr} {s t : State} (h : exec i s = .next t) :
    t.mem = s.mem ∧ t.pending = s.pending ∧ (t.surface = s.surface ∨ RunsPass i) := by
  rcases exec_runsPass_or_storesKept h with ⟨hpass, hresult⟩ | kept
  · obtain ⟨-, hmem, -, -, -, -, hpending, -⟩ := updatePass_frame s
    rcases hresult with e | ⟨b, e⟩ <;> rw [e]
    · exact ⟨hmem, hpending, .inr hpass⟩
    · exact ⟨by simp [hmem], by simp [hpending], .inr hpass⟩
  · exact ⟨kept.mem, kept.pending, .inl kept.surface⟩

end Sys2Proof.Machine

open Sys2Proof.Machine

/-- Settles O55: every command but a pass keeps memory, surface and inputs, and a pass keeps memory and inputs by its
frame; equal memories read the same. -/
theorem noCommandWritesMemory : Obligations.NoCommandWritesMemory := by
  intro i s t h
  obtain ⟨hmem, hpending, hsurface⟩ := exec_keepsMemory h
  exact ⟨fun adr => by rw [hmem], hpending, hsurface⟩

end

section
/-! What moves `cycle`, `halt` and the output trace (10_state.md R30, R32; 00_scope.md R14; 40_update_dispatcher.md R69,
R79): a pass, ADVANCE and a power-down; every other command is quiet. -/

namespace Sys2Proof.Machine

/-- The step leaves `cycle` and `halt` alone and at most appends to the output trace. -/
structure Quiet (s t : State) : Prop where
  cycle : t.cycle = s.cycle
  halt : t.halt = s.halt
  trace : s.events <+: t.events

theorem Quiet.reschedule {s t : State} (h : Quiet s t) : Quiet s t.reschedule := ⟨h.cycle, h.halt, h.trace⟩

/-- `Mix` is quiet: it appends its deltas (42_audio.md R104). -/
theorem Quiet.mix {s t : State} (h : Quiet s t) : Quiet s (mix t) := by
  obtain ⟨e, hmix⟩ := mix_changes t
  rw [hmix]
  exact ⟨h.cycle, h.halt, h.trace.trans (List.prefix_append _ _)⟩

/-- The events of an IODAT write are appended (45_system_registers.md R162). -/
theorem Quiet.cartEvents {s t : State} (h : Quiet s t) (val : Byte) : Quiet s (t.cartEvents val) := by
  have hdata : s.events <+: (t.emit (.cartAddrData (val.getLsbD 1))).events := h.trace.trans (List.prefix_append _ _)
  unfold State.cartEvents
  dsimp only
  split
  · exact ⟨h.cycle, h.halt, hdata.trans (List.prefix_append _ _)⟩
  · exact ⟨h.cycle, h.halt, hdata⟩

theorem Quiet.returnByte {s t : State} (h : Quiet s t) (b : Byte) : Quiet s (t.returnByte b) :=
  ⟨h.cycle, h.halt, h.trace⟩

/-- The beginning of a pass writes neither `halt` nor the trace, and rebases `cycle` exactly above the threshold
(40_update_dispatcher.md R69). -/
theorem beginPass_movers (s : State) :
    (beginPass s).cycle =
        (if s.params.rebaseThreshold < s.cycle then s.cycle - s.params.rebaseDelta else s.cycle) ∧
      (beginPass s).halt = s.halt ∧ (beginPass s).events = s.events := by
  unfold beginPass
  dsimp only
  split <;> exact ⟨rfl, rfl, rfl⟩

/-- A pass at most appends to the output trace, as each engine it runs does (40_update_dispatcher.md R67). -/
theorem updatePass_trace (s : State) : s.events <+: (updatePass s).events := by
  refine PassKeeps.updatePass (P := fun t => s.events <+: t.events) ?_ List.prefix_rfl
  constructor
  · intro t ref x h; simpa using h
  · intro t ref b h; simpa using h
  · intro t n h; exact h
  · intro t h; exact h
  · intro t k h; exact h
  · intro t h; obtain ⟨i, d, f, e, hc⟩ := renderLine_only t; rw [hc]; exact h.trans (List.prefix_append _ _)
  · intro t h; obtain ⟨i, d, f, e, hc⟩ := endOfFrame_only t; rw [hc]; exact h.trans (List.prefix_append _ _)
  · intro t h; obtain ⟨e, hc⟩ := uartTick_changes t; rw [hc]; exact h.trans (List.prefix_append _ _)
  · intro t c h; obtain ⟨e, hc⟩ := audioUnderflow_changes c t; rw [hc]; exact h.trans (List.prefix_append _ _)

/-- After its beginning a pass is quiet. -/
theorem updatePass_quiet (s : State) : Quiet (beginPass s) (updatePass s) := by
  obtain ⟨-, hhalt, hevents⟩ := beginPass_movers s
  obtain ⟨-, -, -, -, -, hpass, -, -⟩ := updatePass_frame s
  exact ⟨cycle_updatePass s, hpass.trans hhalt.symm, by rw [hevents]; exact updatePass_trace s⟩

/-- A power-down appends its two events (45_system_registers.md R160). -/
theorem powerDown_events (s : State) : (powerDown s).events = s.events ++ [.systemReset, .diag .powerDown] := by
  simp [powerDown, resetState]

/-- A command is a pass, which is quiet after its beginning, an ADVANCE, a power-down, or quiet. -/
theorem exec_movers_or_quiet {i : Instr} {s t : State} (h : exec i s = .next t) :
    (RunsPass i ∧ Quiet (beginPass s) t) ∨
    (∃ n : BitVec 16, i = .advance n ∧ t = { s with cycle := s.cycle + n.setWidth 32 }) ∨
    (∃ val, i = .pokeSysctl1 val ∧ val.getLsbD 1 = false ∧
      t = (powerDown s).emit (.cartAddrStrobe (val.getLsbD 0))) ∨
    Quiet s t := by
  cases i <;> obtain rfl := Host.Outcome.next.inj h
  case update => exact .inl ⟨.inl rfl, updatePass_quiet s⟩
  case peekTimCnt n => exact .inl ⟨.inr (.inl ⟨n, rfl⟩), (updatePass_quiet s).returnByte _⟩
  case peekAudCount c => exact .inl ⟨.inr (.inr ⟨c, rfl⟩), (updatePass_quiet s).returnByte _⟩
  case advance n => exact .inr (.inl ⟨n, rfl, rfl⟩)
  case pokeSysctl1 val =>
    refine .inr (.inr ?_)
    split
    · exact .inr ⟨rfl, rfl, List.prefix_append _ _⟩
    · next hbit => exact .inl ⟨val, rfl, by simpa using hbit, rfl⟩
  all_goals refine .inr (.inr (.inr ?_))
  case pokeAudOutval => exact .reschedule (.mix ⟨rfl, rfl, List.prefix_rfl⟩)
  case pokeAtten | pokeMpan | pokeMstereo => exact .mix ⟨rfl, rfl, List.prefix_rfl⟩
  case pokeIodat val => exact .cartEvents (s := s) (t := { s with iodat := val }) ⟨rfl, rfl, List.prefix_rfl⟩ _
  case pokeIntset => split <;> exact ⟨rfl, rfl, List.prefix_rfl⟩
  -- every other command writes other fields only
  all_goals exact ⟨rfl, rfl, List.prefix_rfl⟩

/-- `halt` stays, or a power-down sets it (10_state.md R32). -/
theorem exec_halt {i : Instr} {s t : State} (h : exec i s = .next t) :
    t.halt = s.halt ∨ (t.halt = true ∧ ∃ val, i = .pokeSysctl1 val ∧ val.getLsbD 1 = false) := by
  rcases exec_movers_or_quiet h with ⟨-, pass⟩ | ⟨n, -, rfl⟩ | ⟨val, hi, hbit, rfl⟩ | quiet
  · obtain ⟨-, hhalt, -⟩ := beginPass_movers s
    exact .inl (pass.halt.trans hhalt)
  · exact .inl rfl
  · exact .inr ⟨rfl, val, hi, hbit⟩
  · exact .inl quiet.halt

/-- Every command at most appends to the output trace (00_scope.md R14). -/
theorem exec_trace {i : Instr} {s t : State} (h : exec i s = .next t) : s.events <+: t.events := by
  rcases exec_movers_or_quiet h with ⟨-, pass⟩ | ⟨n, -, rfl⟩ | ⟨val, -, -, rfl⟩ | quiet
  · obtain ⟨-, -, hevents⟩ := beginPass_movers s
    rw [← hevents]; exact pass.trace
  · exact List.prefix_rfl
  · rw [State.emit_events, powerDown_events, List.append_assoc]
    exact List.prefix_append _ _
  · exact quiet.trace

end Sys2Proof.Machine

open Sys2Proof.Machine

/-- Settles O57: `exec_halt` names the one writer of `halt`, `exec_trace` gives the appended events. -/
theorem haltAndTrace : Obligations.HaltAndTrace := by
  intro i s t h
  obtain ⟨es, htrace⟩ := exec_trace h
  rcases exec_halt h with hkept | ⟨hset, hpower⟩
  · exact ⟨fun hs => hkept.trans hs, fun hs ht => by simp [hkept, hs] at ht, es, htrace.symm⟩
  · exact ⟨fun _ => hset, fun _ _ => hpower, es, htrace.symm⟩

/-- Settles O58: a pass leaves `cycle` as its beginning does, and that rebases it exactly above the threshold; of
the other commands ADVANCE alone writes it. -/
theorem cycleMovers : Obligations.CycleMovers := by
  intro i s t h
  rcases exec_movers_or_quiet h with ⟨hi, pass⟩ | ⟨n, hi, rfl⟩ | ⟨val, -, -, rfl⟩ | quiet
  · obtain ⟨hbegin, -, -⟩ := beginPass_movers s
    have hcycle := pass.cycle.trans hbegin
    split at hcycle
    · next habove => exact .inr (.inr ⟨hi, habove, hcycle⟩)
    · exact .inl hcycle
  · exact .inr (.inl ⟨n, hi, rfl⟩)
  · exact .inl rfl
  · exact .inl quiet.cycle

end

section
/-! The decoder and the encoder agree (30_encoding.md R50 to R54): what the decoder reads class by class, at the
offsets of each format and in each illegal-access block, and what a row of the opcode table looks at. -/

namespace Sys2Proof

/-! ### The decoder, class by class (30_encoding.md R51) -/

theorem mkWord_fields (w : CmdWord) : mkWord w.cls w.a w.d = w := by
  change (w.extractLsb' 16 4 ++ w.extractLsb' 8 8 ++ w.extractLsb' 0 8 : BitVec (4 + 8 + 8)) = w
  rw [BitVec.extractLsb'_append_extractLsb'_eq_extractLsb' (start₂ := 16) (start₁ := 8) rfl,
    BitVec.extractLsb'_append_extractLsb'_eq_extractLsb' (start₂ := 8) (start₁ := 0) rfl,
    BitVec.extractLsb'_eq_self]

/-- A command word is its fields (R50). -/
theorem CmdWord.ext_iff {v w : CmdWord} : v = w ↔ v.cls = w.cls ∧ v.a = w.a ∧ v.d = w.d := by
  refine ⟨by rintro rfl; exact ⟨rfl, rfl, rfl⟩, fun ⟨hcls, ha, hd⟩ => ?_⟩
  rw [← mkWord_fields v, ← mkWord_fields w, hcls, ha, hd]

/-- The 16 bits of ADVANCE and RXINJECT are put together from their bytes. -/
@[simp] theorem append_bytes (n : BitVec 16) : n.extractLsb' 8 8 ++ n.extractLsb' 0 8 = n := by
  rw [BitVec.extractLsb'_append_extractLsb'_eq_extractLsb' (start₂ := 8) (start₁ := 0) rfl,
    BitVec.extractLsb'_eq_self]

section classes
variable (a d : Byte)

@[simp] theorem decode_peek : decode (mkWord 0x0#4 a d) = .ok (decodePeek a) := by
  unfold decode; rw [mkWord_cls, mkWord_a]; rfl
@[simp] theorem decode_poke : decode (mkWord 0x1#4 a d) = .ok (decodePoke a d) := by
  unfold decode; rw [mkWord_cls, mkWord_a, mkWord_d]; rfl
@[simp] theorem decode_update : decode (mkWord 0x2#4 a d) = .ok .update := by
  unfold decode; rw [mkWord_cls]; rfl
@[simp] theorem decode_advance : decode (mkWord 0x3#4 a d) = .ok (.advance (a ++ d)) := by
  unfold decode; rw [mkWord_cls, mkWord_a, mkWord_d]; rfl
@[simp] theorem decode_reset : decode (mkWord 0x4#4 a d) = .ok .reset := by
  unfold decode; rw [mkWord_cls]; rfl
@[simp] theorem decode_rxInject : decode (mkWord 0x5#4 a d) = .ok (.rxInject (a ++ d)) := by
  unfold decode; rw [mkWord_cls, mkWord_a, mkWord_d]; rfl
@[simp] theorem decode_bindSurface : decode (mkWord 0x6#4 a d) = .ok .bindSurface := by
  unfold decode; rw [mkWord_cls]; rfl
@[simp] theorem decode_setSkip : decode (mkWord 0x7#4 a d) = .ok (.setSkip (d.getLsbD 0)) := by
  unfold decode; rw [mkWord_cls, mkWord_d]; rfl
@[simp] theorem decode_setEpoch : decode (mkWord 0x8#4 a d) = .ok .setEpoch := by
  unfold decode; rw [mkWord_cls]; rfl
@[simp] theorem decode_setCallback : decode (mkWord 0x9#4 a d) = .ok (.setCallback (d.getLsbD 0)) := by
  unfold decode; rw [mkWord_cls, mkWord_d]; rfl

end classes

theorem decode_reserved {w : CmdWord} (h : 9 < w.cls.toNat) : decode w = .error (.reservedClass w.cls) := by
  have hne : ∀ k : BitVec 4, k.toNat ≤ 9 → w.cls ≠ k := by rintro k hk rfl; omega
  simp (disch := decide) only [decode, hne, if_false]

/-- A property of every command word, class by class. -/
theorem CmdWord.forall_of_cls {P : CmdWord → Prop} (w : CmdWord) (peek : ∀ a d, P (mkWord 0x0#4 a d))
    (poke : ∀ a d, P (mkWord 0x1#4 a d)) (update : ∀ a d, P (mkWord 0x2#4 a d))
    (advance : ∀ a d, P (mkWord 0x3#4 a d)) (reset : ∀ a d, P (mkWord 0x4#4 a d))
    (rxInject : ∀ a d, P (mkWord 0x5#4 a d)) (bindSurface : ∀ a d, P (mkWord 0x6#4 a d))
    (setSkip : ∀ a d, P (mkWord 0x7#4 a d)) (setEpoch : ∀ a d, P (mkWord 0x8#4 a d))
    (setCallback : ∀ a d, P (mkWord 0x9#4 a d)) (reserved : ∀ w : CmdWord, 9 < w.cls.toNat → P w) : P w := by
  by_cases hres : 9 < w.cls.toNat
  · exact reserved w hres
  have hcls : ∀ c : BitVec 4, ¬ 9 < c.toNat → c = 0x0 ∨ c = 0x1 ∨ c = 0x2 ∨ c = 0x3 ∨ c = 0x4 ∨ c = 0x5 ∨
      c = 0x6 ∨ c = 0x7 ∨ c = 0x8 ∨ c = 0x9 := by decide
  have hw := mkWord_fields w
  rcases hcls w.cls hres with h | h | h | h | h | h | h | h | h | h <;> rw [← hw, h]
  exacts [peek _ _, poke _ _, update _ _, advance _ _, reset _ _, rxInject _ _, bindSurface _ _, setSkip _ _,
    setEpoch _ _, setCallback _ _]

theorem exists_decode (w : CmdWord) : w.cls.toNat ≤ 9 → ∃ i, decode w = .ok i := by
  induction w using CmdWord.forall_of_cls
  case reserved w h => exact fun hle => absurd hle (by omega)
  all_goals simp

/-! ### The formats of an offset (30_encoding.md R53) -/

@[simp] theorem offsetFormat_offsetT :
    ∀ (n : Fin 8) (r : BitVec 2), offsetFormat (offsetT n r) = .timer n r.toFin := by decide

@[simp] theorem offsetFormat_offsetA :
    ∀ (c : Fin 4) (k : BitVec 3), offsetFormat (offsetA c k) = .audio c k.toFin := by decide

@[simp] theorem offsetFormat_offsetN : ∀ c : Fin 4, offsetFormat (offsetN c) = .atten c := by decide

@[simp] theorem offsetFormat_offsetP :
    ∀ (b : BitVec 1) (i : Fin 16), offsetFormat (offsetP b i) = .palette (b.getLsbD 0) i := by decide

/-! A pattern under the mask of a format is matched by offsets of that format only: the converses of
`Laws.TableRow.offsetT_row` and its companions. -/

theorem exists_offsetT {a p : Byte} (h : a &&& 0xE3 = p) (hp : p ≤ 0x03) :
    ∃ n, a = offsetT n (p.setWidth 2) := by
  subst h; revert a; decide

theorem exists_offsetA {a p : Byte} (h : a &&& 0xE7 = p) (hp : 0x20 ≤ p ∧ p ≤ 0x27) :
    ∃ c, a = offsetA c (p.setWidth 3) := by
  subst h; revert a; decide

theorem exists_offsetN : ∀ {a : Byte}, a &&& 0xFC = 0x40 → ∃ c, a = offsetN c := by decide

theorem exists_offsetP : ∀ {a : Byte} (b : BitVec 1), a &&& 0xF0 = 0xA0 ||| (b.setWidth 8 <<< 4) →
    ∃ i, a = offsetP b i := by decide

/-- Every other offset is of format S. -/
theorem offsetFormat_single : ∀ off : Byte, 0x44 ≤ off ∧ off ≤ 0x9F ∨ 0xC0 ≤ off →
    offsetFormat off = .single off := by decide

/-! ### The illegal-access blocks (30_encoding.md R54) -/

theorem offsetIn_iff {lo hi off : Byte} : offsetIn lo hi off = true ↔ lo ≤ off ∧ off ≤ hi := by
  simp [offsetIn]

/-- An offset in a block passes no test for a single offset outside it. -/
theorem ne_of_offsetIn {lo hi off b : Byte} (h : offsetIn lo hi off = true) (hb : offsetIn lo hi b = false) :
    off ≠ b := by
  rintro rfl
  simp [h] at hb

/-- An offset in a block passes no test for a block that does not meet it. -/
theorem offsetIn_disjoint {lo hi lo' hi' off : Byte} (h : offsetIn lo hi off = true) (hd : hi < lo' ∨ hi' < lo) :
    offsetIn lo' hi' off = false := by
  rw [offsetIn_iff] at h
  rw [Bool.eq_false_iff, ne_eq, offsetIn_iff]
  bv_omega

theorem offsetFormat_block {lo hi off : Byte} (h : offsetIn lo hi off = true)
    (hb : 0x44 ≤ lo ∧ hi ≤ 0x9F ∨ 0xC0 ≤ lo) : offsetFormat off = .single off := by
  rw [offsetIn_iff] at h
  exact offsetFormat_single off (by bv_omega)

/-- An offset that matches a pattern under a mask lies between the pattern and the pattern with the free bits set. -/
theorem offsetIn_of_and_eq {p m a : Byte} (h : a &&& m = p) : offsetIn p (p ||| ~~~m) a = true := by
  have hor : p ||| ~~~m = a ||| ~~~m := by
    subst h
    ext i
    simp only [BitVec.getElem_or, BitVec.getElem_and, BitVec.getElem_not]
    cases a[i] <;> cases m[i] <;> rfl
  rw [offsetIn_iff, hor, ← h]
  exact ⟨Nat.and_le_left, Nat.left_le_or⟩

/-- PEEK of an offset in an illegal block is the block's command: the decoder's tests for other offsets and other
blocks all fail. -/
theorem decodePeek_block (off : Byte) :
    (offsetIn 0x46#8 0x47#8 off = true → decodePeek off = .peekIllegal46 off) ∧
    (offsetIn 0x48#8 0x4F#8 off = true → decodePeek off = .peekIllegal48 off) ∧
    (offsetIn 0x52#8 0x53#8 off = true → decodePeek off = .peekIllegal52 off) ∧
    (offsetIn 0x54#8 0x57#8 off = true → decodePeek off = .peekIllegal54 off) ∧
    (offsetIn 0x58#8 0x5F#8 off = true → decodePeek off = .peekIllegal58 off) ∧
    (offsetIn 0x60#8 0x7F#8 off = true → decodePeek off = .peekIllegal60 off) ∧
    (offsetIn 0x82#8 0x83#8 off = true → decodePeek off = .peekIllegal82 off) ∧
    (offsetIn 0x8E#8 0x8F#8 off = true → decodePeek off = .peekIllegal8E off) ∧
    (offsetIn 0x90#8 0x9F#8 off = true → decodePeek off = .peekIllegal90 off) ∧
    (offsetIn 0xC0#8 0xFF#8 off = true → decodePeek off = .peekIllegalC0 off) := by
  refine ⟨?_, ?_, ?_, ?_, ?_, ?_, ?_, ?_, ?_, ?_⟩ <;> intro h <;>
    simp (disch := decide) only [decodePeek, decodePeekSingle, offsetFormat_block h, ne_of_offsetIn h,
      offsetIn_disjoint h, h, if_true, if_false, Bool.false_eq_true, BitVec.ofNat_eq_ofNat]

/-- POKE of an offset in an illegal block is the block's command, in the same way. -/
theorem decodePoke_block (off val : Byte) :
    (offsetIn 0x46#8 0x47#8 off = true → decodePoke off val = .pokeIllegal46 off val) ∧
    (offsetIn 0x48#8 0x4F#8 off = true → decodePoke off val = .pokeIllegal48 off val) ∧
    (offsetIn 0x52#8 0x53#8 off = true → decodePoke off val = .pokeIllegal52 off val) ∧
    (offsetIn 0x54#8 0x57#8 off = true → decodePoke off val = .pokeIllegal54 off val) ∧
    (offsetIn 0x58#8 0x5F#8 off = true → decodePoke off val = .pokeIllegal58 off val) ∧
    (offsetIn 0x60#8 0x7F#8 off = true → decodePoke off val = .pokeIllegal60 off val) ∧
    (offsetIn 0x82#8 0x83#8 off = true → decodePoke off val = .pokeIllegal82 off val) ∧
    (offsetIn 0x84#8 0x85#8 off = true → decodePoke off val = .pokeIllegal84 off val) ∧
    (offsetIn 0x8E#8 0x8F#8 off = true → decodePoke off val = .pokeIllegal8E off val) ∧
    (offsetIn 0x96#8 0x97#8 off = true → decodePoke off val = .pokeIllegal96 off val) ∧
    (offsetIn 0x98#8 0x9B#8 off = true → decodePoke off val = .pokeIllegal98 off val) ∧
    (offsetIn 0xC0#8 0xFF#8 off = true → decodePoke off val = .pokeIllegalC0 off val) := by
  refine ⟨?_, ?_, ?_, ?_, ?_, ?_, ?_, ?_, ?_, ?_, ?_, ?_⟩ <;> intro h <;>
    simp (disch := decide) only [decodePoke, decodePokeSingle, offsetFormat_block h, ne_of_offsetIn h,
      offsetIn_disjoint h, h, if_true, if_false, Bool.false_eq_true, BitVec.ofNat_eq_ofNat]

/-! ### The rows of the opcode table (30_encoding.md R54) -/

theorem Instr.row_fields (i : Instr) :
    CmdWord.cls i.row.mask = BitVec.allOnes 4 ∧ CmdWord.d i.row.mask = 0 ∧ CmdWord.d i.row.pattern = 0 := by
  cases i <;> dsimp only [Instr.row] <;> decide

/-- A row fixes the class, looks at the offset through its mask and never reads the low byte. -/
theorem Instr.row_holds_iff (i : Instr) (w : CmdWord) :
    i.row.holds w = true ↔
      w.cls = CmdWord.cls i.row.pattern ∧ w.a &&& CmdWord.a i.row.mask = CmdWord.a i.row.pattern := by
  obtain ⟨hcls, hd, hpattern⟩ := i.row_fields
  have hfields : w &&& i.row.mask = i.row.pattern ↔ w.cls &&& CmdWord.cls i.row.mask = CmdWord.cls i.row.pattern ∧
      w.a &&& CmdWord.a i.row.mask = CmdWord.a i.row.pattern ∧
      w.d &&& CmdWord.d i.row.mask = CmdWord.d i.row.pattern := by
    simp only [CmdWord.ext_iff, CmdWord.cls, CmdWord.a, CmdWord.d, BitVec.extractLsb'_and]
  rw [Row.holds, beq_iff_eq, hfields, hcls, hd, hpattern, BitVec.and_allOnes]
  simp

theorem Instr.row_holds_mkWord (i : Instr) (c : BitVec 4) (a d : Byte) :
    i.row.holds (mkWord c a d) = i.row.holds (mkWord c a 0) := by
  rw [Bool.eq_iff_iff]
  simp only [Instr.row_holds_iff, mkWord_cls, mkWord_a]

/-- The offsets one by one: what a PEEK is decoded to is well-formed and its row holds the word. -/
theorem decodePeek_inRow : ∀ off : Byte,
    (decodePeek off).wellFormed = true ∧ (decodePeek off).row.holds (mkWord 0x0 off 0) = true := by decide

/-- The byte of a POKE decides neither the command's row nor its well-formedness. -/
theorem decodePoke_byte (off val : Byte) :
    (decodePoke off val).wellFormed = (decodePoke off 0).wellFormed ∧
      (decodePoke off val).row = (decodePoke off 0).row := by
  unfold decodePoke
  split
  -- format S: the row of a chain of tests is the chain of the rows
  case h_16 =>
    simp only [decodePokeSingle, apply_ite Instr.row, apply_ite Instr.wellFormed]
    exact ⟨rfl, rfl⟩
  all_goals exact ⟨rfl, rfl⟩

/-- The same of a POKE of the byte 0. -/
theorem decodePoke_zero_inRow : ∀ off : Byte,
    (decodePoke off 0).wellFormed = true ∧ (decodePoke off 0).row.holds (mkWord 0x1 off 0) = true := by decide

theorem decodePoke_inRow (off val : Byte) :
    (decodePoke off val).wellFormed = true ∧ (decodePoke off val).row.holds (mkWord 0x1 off val) = true := by
  obtain ⟨hwf, hrow⟩ := decodePoke_byte off val
  rw [hwf, hrow, Instr.row_holds_mkWord]
  exact decodePoke_zero_inRow off

/-- A word that lies in a row decodes to a command of that row: the row's pattern gives the class, and the offset
is one the row's format or block stands for. -/
theorem decode_of_row_holds {j : Instr} {w : CmdWord} (h : j.row.holds w = true) :
    ∃ i, decode w = .ok i ∧ i.row = j.row := by
  obtain ⟨hcls, ha⟩ := (j.row_holds_iff w).1 h
  rw [← mkWord_fields w, hcls]
  generalize w.a = a at ha ⊢
  generalize w.d = d
  -- the row is made a variable so that its fields are computed on closed words
  generalize hr : j.row = r at ha ⊢
  cases j <;> dsimp only [Instr.row] at hr <;> subst hr <;> dsimp [CmdWord.cls, CmdWord.a] at ha ⊢
  all_goals
    simp only [decode_peek, decode_poke, decode_update, decode_advance, decode_reset, decode_rxInject,
      decode_bindSurface, decode_setSkip, decode_setEpoch, decode_setCallback]
    refine ⟨_, rfl, ?_⟩
  case peekTimBkup | pokeTimBkup | peekTimCtla | pokeTimCtla | peekTimCnt | pokeTimCnt | peekTimCtlb | pokeTimCtlb =>
    obtain ⟨n, rfl⟩ := exists_offsetT ha (by decide)
    simp only [decodePeek, decodePoke, offsetFormat_offsetT]; rfl
  case peekAudVol | pokeAudVol | peekAudShftfb | pokeAudShftfb | peekAudOutval | pokeAudOutval | peekAudL8shft |
      pokeAudL8shft | peekAudTback | pokeAudTback | peekAudCtl | pokeAudCtl | peekAudCount | pokeAudCount |
      peekAudMisc | pokeAudMisc =>
    obtain ⟨c, rfl⟩ := exists_offsetA ha (by decide)
    simp only [decodePeek, decodePoke, offsetFormat_offsetA]; rfl
  case peekAtten | pokeAtten =>
    obtain ⟨c, rfl⟩ := exists_offsetN ha
    simp only [decodePeek, decodePoke, offsetFormat_offsetN]; rfl
  case peekGreen | pokeGreen =>
    obtain ⟨i, rfl⟩ := exists_offsetP 0 ha
    simp only [decodePeek, decodePoke, offsetFormat_offsetP]; rfl
  case peekBluered | pokeBluered =>
    obtain ⟨i, rfl⟩ := exists_offsetP 1 ha
    simp only [decodePeek, decodePoke, offsetFormat_offsetP]; rfl
  case peekIllegal46 | peekIllegal48 | peekIllegal52 | peekIllegal54 | peekIllegal58 | peekIllegal60 |
      peekIllegal82 | peekIllegal8E | peekIllegal90 | peekIllegalC0 =>
    have hin := offsetIn_of_and_eq ha
    simp only [BitVec.reduceNot, BitVec.reduceOr] at hin
    simp only [decodePeek_block, hin]; rfl
  case pokeIllegal46 | pokeIllegal48 | pokeIllegal52 | pokeIllegal54 | pokeIllegal58 | pokeIllegal60 |
      pokeIllegal82 | pokeIllegal84 | pokeIllegal8E | pokeIllegal96 | pokeIllegal98 | pokeIllegalC0 =>
    have hin := offsetIn_of_and_eq ha
    simp only [BitVec.reduceNot, BitVec.reduceOr] at hin
    simp only [decodePoke_block, hin]; rfl
  case update | advance | reset | rxInject | bindSurface | setSkip | setEpoch | setCallback => rfl
  -- what is left stands at a single offset
  all_goals
    obtain rfl := BitVec.and_allOnes.symm.trans ha
    rfl

end Sys2Proof

namespace Sys2Proof.Machine

theorem State.takeInput_cons {s : State} {h : HostInput} {rest : List HostInput} (hs : s.pending = h :: rest) :
    s.takeInput = some (h, { s with pending := rest, result := none }) := by
  simp only [State.takeInput, hs]

/-- A step refuses a word of a reserved class (30_encoding.md R51). -/
theorem step_reserved {s : State} {w : CmdWord} {rest : List HostInput} (hs : s.pending = .command w :: rest)
    (hw : 9 < w.cls.toNat) : step s = .refused (.reservedClass w.cls) := by
  simp only [step, State.takeInput_cons hs, decode_reserved hw]

end Sys2Proof.Machine

open Sys2Proof Sys2Proof.Machine

/-- Settles O1, by cases on the command: a register's offset has its format, an illegal offset lies in its block, and
the host commands carry their operands in `a` and `d`. -/
theorem encodeThenDecode : Obligations.EncodeThenDecode := by
  intro i h
  cases i
  case peekTimBkup | peekTimCtla | peekTimCnt | peekTimCtlb | peekAudVol | peekAudShftfb | peekAudOutval |
      peekAudL8shft | peekAudTback | peekAudCtl | peekAudCount | peekAudMisc | peekAtten | peekGreen | peekBluered =>
    simp [encode, decodePeek]
  case pokeTimBkup | pokeTimCtla | pokeTimCnt | pokeTimCtlb | pokeAudVol | pokeAudShftfb | pokeAudOutval |
      pokeAudL8shft | pokeAudTback | pokeAudCtl | pokeAudCount | pokeAudMisc | pokeAtten | pokeGreen | pokeBluered =>
    simp [encode, decodePoke]
  case peekIllegal46 | peekIllegal48 | peekIllegal52 | peekIllegal54 | peekIllegal58 | peekIllegal60 |
      peekIllegal82 | peekIllegal8E | peekIllegal90 | peekIllegalC0 =>
    simp only [Instr.wellFormed, BitVec.ofNat_eq_ofNat] at h
    refine (decode_peek _ _).trans (congrArg _ ?_)
    simp only [decodePeek_block, h]
  case pokeIllegal46 | pokeIllegal48 | pokeIllegal52 | pokeIllegal54 | pokeIllegal58 | pokeIllegal60 |
      pokeIllegal82 | pokeIllegal84 | pokeIllegal8E | pokeIllegal96 | pokeIllegal98 | pokeIllegalC0 =>
    simp only [Instr.wellFormed, BitVec.ofNat_eq_ofNat] at h
    refine (decode_poke _ _).trans (congrArg _ ?_)
    simp only [decodePoke_block, h]
  case update | advance | reset | rxInject | bindSurface | setEpoch => simp [encode]
  case setSkip b | setCallback b => cases b <;> simp [encode]
  -- what is left stands at a single offset
  case peekMpan | peekMstereo | peekIntrst | peekIntset | peekMagrdy0 | peekMagrdy1 | peekAudin | peekMikeyhrev |
      peekIodat | peekSerctl | peekSerdat | peekIllegal45 | peekIllegal51 | peekIllegal87 | peekIllegal89 |
      peekIllegal8A => exact decode_peek _ _
  all_goals exact decode_poke _ _

/-- Settles O2, by the word's class: a PEEK and a POKE by their offset, a host command by its class alone. -/
theorem decodedWordLiesInItsRow : Obligations.DecodedWordLiesInItsRow := by
  intro w i
  induction w using CmdWord.forall_of_cls
  case peek a d =>
    rw [decode_peek, Instr.row_holds_mkWord]
    rintro ⟨⟩
    exact decodePeek_inRow a
  case poke a d =>
    rw [decode_poke]
    rintro ⟨⟩
    exact decodePoke_inRow a d
  case reserved w h =>
    rw [decode_reserved h]
    rintro ⟨⟩
  all_goals
    simp only [decode_update, decode_advance, decode_reset, decode_rxInject, decode_bindSurface, decode_setSkip,
      decode_setEpoch, decode_setCallback]
    rintro ⟨⟩
    refine ⟨rfl, (Instr.row_holds_iff _ _).2 ?_⟩
    rw [mkWord_cls, mkWord_a]
    dsimp only [Instr.row]
    exact ⟨rfl, BitVec.and_zero⟩

/-- Settles O3: the word lies in the row of the command it decodes to, and decodes to a command of any row it lies
in. -/
theorem oneRowPerWord : Obligations.OneRowPerWord := by
  intro w hcls
  obtain ⟨i, hi⟩ := exists_decode w hcls
  obtain ⟨-, hrow⟩ := decodedWordLiesInItsRow w i hi
  refine ⟨i.row, hrow, ⟨i, rfl⟩, fun j hj => ?_⟩
  obtain ⟨i', hi', hsame⟩ := decode_of_row_holds hj
  cases hi.symm.trans hi'
  exact hsame.symm

/-- Settles O4: `exists_decode` for the classes with a meaning, `decode_reserved` and `step_reserved` for the rest. -/
theorem decoderIsTotal : Obligations.DecoderIsTotal := fun w =>
  ⟨exists_decode w, fun hw => ⟨decode_reserved hw, fun _ _ hs => step_reserved hs hw⟩⟩

/-- Settles O5: the decoder's equation for each class does not mention the bits it ignores. -/
theorem ignoredBitsDoNotMatter : Obligations.IgnoredBitsDoNotMatter := by
  intro a a' d d'
  refine ⟨by simp, by simp, by simp, by simp, by simp, fun hbit => ?_⟩
  simpa using hbit

/-- Settles O6, by running the decoder. -/
theorem sampleWordsDecode : Obligations.SampleWordsDecode := by
  unfold Obligations.SampleWordsDecode
  decide

end

section

open Sys2Proof.Machine

/-- Settles O22: each of the five meanings writes the named fields of the state record. -/
theorem hostCommands : Obligations.HostCommands := fun _ _ _ => ⟨rfl, rfl, rfl, rfl, rfl⟩

end

section
/-! The rebase at the beginning of a pass (40_update_dispatcher.md R69): one shift of `cycle` and of every stamp. -/

namespace Sys2Proof.Machine

theorem exec_update_eq {s t : State} (h : exec .update s = .next t) : updatePass s = t :=
  Host.Outcome.next.inj h

/-- How far a pass moves `cycle` and the twelve stamps down (R69). -/
def passShift (s : State) : Stamp := if s.params.rebaseThreshold < s.cycle then s.params.rebaseDelta else 0#32

theorem passShift_of_le {s : State} (h : s.cycle ≤ s.params.rebaseThreshold) : passShift s = 0#32 :=
  if_neg (BitVec.not_lt.2 h)

theorem passShift_of_lt {s : State} (h : s.params.rebaseThreshold < s.cycle) : passShift s = s.params.rebaseDelta :=
  if_pos h

theorem beginPass_of_le {s : State} (h : s.cycle ≤ s.params.rebaseThreshold) :
    beginPass s = { s with nextEvent := 0xFFFFFFFF } := by
  simp only [beginPass, if_neg (BitVec.not_lt.2 h)]

theorem beginPass_of_lt {s : State} (h : s.params.rebaseThreshold < s.cycle) :
    beginPass s = { rebase s with nextEvent := 0xFFFFFFFF } := by
  simp only [beginPass, if_pos h]

theorem cycle_beginPass (s : State) : (beginPass s).cycle = s.cycle - passShift s := by
  rw [(beginPass_movers s).1, passShift]
  split
  · rfl
  · exact (BitVec.sub_zero _).symm

theorem Counter.rebase_zero (x : Counter) : x.rebase 0#32 = x := by simp [Counter.rebase]

theorem counter_beginPass (s : State) (ref : CounterRef) :
    (beginPass s).counter ref = (s.counter ref).rebase (passShift s) := by
  by_cases h : s.params.rebaseThreshold < s.cycle
  · rw [beginPass_of_lt h, passShift_of_lt h, ← counter_rebase]
    exact State.counter_congr rfl rfl ref
  · rw [BitVec.not_lt] at h
    rw [beginPass_of_le h, passShift_of_le h, Counter.rebase_zero]
    exact State.counter_congr rfl rfl ref

/-- A rebase leaves the age of a stamp. -/
theorem Counter.age_rebase (x : Counter) (cycle d : Stamp) :
    cycle - d - (x.rebase d).lastClock = cycle - x.lastClock := by
  simp only [Counter.rebase, sub_sub_sub_cancel_right]

/-- A rebase leaves a stamp's place before the cycle. -/
theorem Counter.phase_rebase (x : Counter) (cycle d : Stamp) :
    (x.rebase d).lastClock - (cycle - d) = x.lastClock - cycle := by
  simp only [Counter.rebase, sub_sub_sub_cancel_right]

theorem Counter.elapsedTicks_rebase (x : Counter) (cycle d : Stamp) (sh : Nat) :
    (x.rebase d).elapsedTicks (cycle - d) sh = x.elapsedTicks cycle sh := by
  simp only [Counter.elapsedTicks, Counter.age_rebase, Counter.shift]; rfl

/-- A rebase leaves the distance to the next underflow. -/
theorem Counter.distance_rebase (x : Counter) (cycle d : Stamp) (sh : Nat) :
    (x.rebase d).nextUnderflow sh - (cycle - d) = x.nextUnderflow sh - cycle := by
  change x.lastClock - d + BitVec.ofNat 32 (x.ticksToUnderflow <<< x.shift sh) - (cycle - d) = _
  rw [sub_add_eq_add_sub, sub_sub_sub_cancel_right, Counter.nextUnderflow]

/-- A pass above the threshold is the pass of the shifted state, if that is not above the threshold. -/
theorem updatePass_rebase {s : State} (h : s.params.rebaseThreshold < s.cycle)
    (hr : (rebase s).cycle ≤ s.params.rebaseThreshold) : updatePass s = updatePass (rebase s) := by
  have hbegin : beginPass s = beginPass (rebase s) := by rw [beginPass_of_lt h, beginPass_of_le hr]
  rw [updatePass, updatePass, hbegin]

end Sys2Proof.Machine

open Sys2Proof.Machine

/-- Settles O53: the shifted state is `rebase s`, from which the pass goes on. -/
theorem rebasePreservesDeltas : Obligations.RebasePreservesDeltas := by
  intro s
  refine ⟨fun hle t ht => ?_, fun hlt => ⟨rebase s, rfl, counter_rebase s, fun ref => ?_, rfl, fun hle => ?_,
    fun t ht => ?_⟩⟩
  · rw [← exec_update_eq ht, cycle_updatePass, beginPass_of_le hle]
  · rw [counter_rebase]
    exact ⟨Counter.age_rebase _ _ _, Counter.distance_rebase _ _ _ _⟩
  · exact congrArg Host.Outcome.next (updatePass_rebase hlt hle)
  · rw [← exec_update_eq ht, cycle_updatePass, beginPass_of_lt hlt]

end

section
/-! A counter after a pass (40_update_dispatcher.md R70 to R73): stopped, linked or clocked, in terms of the counter
before it. -/

namespace Sys2Proof.Machine

/-- The reload of a counter's underflow: Timer 0 reloads always (41_timers.md R84). -/
def CounterRef.reload (ref : CounterRef) : Counter → Counter :=
  if ref = .timer 0 then Counter.reloadAlways else Counter.reloadOrClamp

/-- `ticks` ticks take the count below zero (R71). -/
def Counter.underflows (x : Counter) (ticks : Stamp) : Bool :=
  decide (ticks ≠ 0#32 ∧ x.current - (ticks.toNat : Int) < 0)

/-- The count an underflow leaves in the counter of `ref` (R71; 41_timers.md R84). -/
def Counter.reloaded (x : Counter) (ref : CounterRef) (ticks : Stamp) : Int :=
  if x.enableReload = true ∨ ref = .timer 0 then x.current - (ticks.toNat : Int) + (x.backup.toNat : Int) + 1 else 0

theorem CounterRef.reload_eq (ref : CounterRef) (x : Counter) :
    ref.reload x =
      { x with
        current := if x.enableReload = true ∨ ref = .timer 0 then x.current + (x.backup.toNat : Int) + 1 else 0
        done := true } := by
  by_cases h0 : ref = .timer 0
  · simp [CounterRef.reload, Counter.reloadAlways, h0]
  · cases hr : x.enableReload <;> simp [CounterRef.reload, Counter.reloadOrClamp, h0, hr]

/-- The counter of `ref` after `ticks` ticks (R71, R72), in one record. -/
def Counter.ticked (x : Counter) (ref : CounterRef) (ticks : Stamp) : Counter :=
  { x with
    current := if x.underflows ticks then x.reloaded ref ticks else x.current - (ticks.toNat : Int)
    done := x.done || x.underflows ticks
    borrowIn := decide (ticks ≠ 0#32)
    borrowOut := x.underflows ticks }

theorem Counter.consumed_reload (x : Counter) (ref : CounterRef) (ticks : Stamp) :
    x.consumed ticks ref.reload = x.ticked ref ticks := by
  by_cases h0 : ticks = 0#32
  · simp [Counter.consumed, Counter.ticked, Counter.underflows, Counter.idle, h0]
  by_cases hneg : x.current - (ticks.toNat : Int) < 0
  · simp [Counter.consumed, Counter.ticked, CounterRef.reload_eq, Counter.underflows, Counter.reloaded, Counter.tick,
      h0, hneg]
  · simp [Counter.consumed, Counter.ticked, Counter.underflows, Counter.tick, h0, hneg]

/-- A linked counter that gets no tick is idled. -/
theorem Counter.ticked_zero (x : Counter) (ref : CounterRef) : x.ticked ref 0#32 = x.idle := by
  simp [Counter.ticked, Counter.underflows, Counter.idle]

/-- The single tick of a linked counter above 0. -/
theorem Counter.ticked_one_of_pos {x : Counter} (h : 0 < x.current) (ref : CounterRef) :
    x.ticked ref 1#32 = { x with current := x.current - 1, borrowIn := true, borrowOut := false } := by
  have hover : ¬ x.current - 1 < 0 := by omega
  simp [Counter.ticked, Counter.underflows, hover]

/-- The single tick of a linked counter at 0 or below. -/
theorem Counter.ticked_one_of_nonpos {x : Counter} {ref : CounterRef} (h : x.current ≤ 0) (h0 : ref ≠ .timer 0) :
    x.ticked ref 1#32 =
      { x with
        current := if x.enableReload = true then x.current + (x.backup.toNat : Int) else 0
        done := true, borrowIn := true, borrowOut := true } := by
  have hunder : x.current - 1 < 0 := by omega
  have hreload : x.current - 1 + (x.backup.toNat : Int) + 1 = x.current + x.backup.toNat := by ring
  simp [Counter.ticked, Counter.underflows, Counter.reloaded, hunder, h0, hreload]

theorem predictCounting_of_ne (s : State) {ref : CounterRef} (h : ref ≠ .timer 0) :
    s.predictCounting ref = (s.counter ref).counting := if_neg h

/-- A counter that is not clocked is linked and is neither Timer 0 nor Timer 6 (41_timers.md R84, R91). -/
theorem predictClocked_eq_false {s : State} {ref : CounterRef} :
    s.predictClocked ref = false ↔ ref ≠ .timer 0 ∧ ref ≠ .timer 6 ∧ (s.counter ref).linking = Config.linkSel := by
  simp [State.predictClocked, and_assoc]

section

variable {s : State} {ref : CounterRef}

/-- A counter whose gate is closed loses its borrow flags (R70, R71). -/
theorem counter_updatePass_stopped (hc : s.predictCounting ref = false) :
    (updatePass s).counter ref = ((s.counter ref).rebase (passShift s)).idle := by
  by_cases h0 : ref = .timer 0
  · subst h0
    have hc' : ((s.counter (.timer 0)).rebase (passShift s)).enableCount = false := hc
    rw [counter_updatePass_timer0, counter_beginPass, Counter.stepped0, if_neg (ne_true_of_eq_false hc')]
  · rw [predictCounting_of_ne s h0] at hc
    have hc' : ((s.counter ref).rebase (passShift s)).counting = false := hc
    rw [counter_updatePass s h0, counter_beginPass, Counter.stepped, if_neg (ne_true_of_eq_false hc')]

/-- A linked counter takes its source's borrow as its ticks (R71, R73). -/
theorem counter_updatePass_linked (hc : s.predictCounting ref = true) (hl : s.predictClocked ref = false) :
    (updatePass s).counter ref = ((s.counter ref).rebase (passShift s)).ticked ref
      (if sourceBorrow (updatePass s) ref then 1 else 0) := by
  obtain ⟨h0, h6, hlink⟩ := predictClocked_eq_false.1 hl
  rw [predictCounting_of_ne s h0] at hc
  have hc' : ((s.counter ref).rebase (passShift s)).counting = true := hc
  have hlink' : ((s.counter ref).rebase (passShift s)).linking = Config.linkSel := hlink
  rw [counter_updatePass s h0, counter_beginPass, Counter.stepped, if_pos hc', if_pos (by simp [h6, hlink']),
    ← Counter.consumed_reload, CounterRef.reload, if_neg h0]

/-- A clocked counter takes the ticks since its last sync (R71; 41_timers.md R84). -/
theorem counter_updatePass_clocked (hc : s.predictCounting ref = true) (hk : s.predictClocked ref = true) :
    (updatePass s).counter ref =
      (((s.counter ref).rebase (passShift s)).sync ((s.counter ref).elapsedTicks s.cycle (shiftBase ref))
        (shiftBase ref)).ticked ref ((s.counter ref).elapsedTicks s.cycle (shiftBase ref)) := by
  rw [← Counter.consumed_reload]
  by_cases h0 : ref = .timer 0
  · subst h0
    have hc' : ((s.counter (.timer 0)).rebase (passShift s)).enableCount = true := hc
    rw [counter_updatePass_timer0, counter_beginPass, cycle_beginPass, Counter.stepped0, if_pos hc',
      Counter.elapsedTicks_rebase]
    rfl
  · rw [predictCounting_of_ne s h0] at hc
    have hc' : ((s.counter ref).rebase (passShift s)).counting = true := hc
    have hk' : (decide (ref ≠ .timer 6) &&
        ((s.counter ref).rebase (passShift s)).linking == Config.linkSel) = false := by
      by_contra hlinked
      have : ref ≠ .timer 6 ∧ (s.counter ref).linking = Config.linkSel := by simpa [Counter.rebase] using hlinked
      rw [predictClocked_eq_false.2 ⟨h0, this⟩] at hk
      exact Bool.false_ne_true hk
    rw [counter_updatePass s h0, counter_beginPass, cycle_beginPass, Counter.stepped, if_pos hc',
      if_neg (ne_true_of_eq_false hk'), Counter.elapsedTicks_rebase, CounterRef.reload, if_neg h0]

end

/-- The programmed fields of a counter (10_state.md R19). -/
structure Counter.SameProgram (x y : Counter) : Prop where
  backup : y.backup = x.backup
  enableCount : y.enableCount = x.enableCount
  enableReload : y.enableReload = x.enableReload
  linking : y.linking = x.linking

theorem Counter.SameProgram.trans {x y z : Counter} (h : x.SameProgram y) (h' : y.SameProgram z) : x.SameProgram z :=
  ⟨h'.backup.trans h.backup, h'.enableCount.trans h.enableCount, h'.enableReload.trans h.enableReload,
    h'.linking.trans h.linking⟩

/-- A pass leaves the programmed fields of the counters. -/
theorem updatePass_program (s : State) (ref : CounterRef) :
    (s.counter ref).SameProgram ((updatePass s).counter ref) := by
  cases hc : s.predictCounting ref
  · rw [counter_updatePass_stopped hc]
    exact ⟨rfl, rfl, rfl, rfl⟩
  cases hk : s.predictClocked ref
  · rw [counter_updatePass_linked hc hk]
    exact ⟨rfl, rfl, rfl, rfl⟩
  · rw [counter_updatePass_clocked hc hk]
    exact ⟨rfl, rfl, rfl, rfl⟩

theorem cycle_updatePass_shift (s : State) : (updatePass s).cycle = s.cycle - passShift s := by
  rw [cycle_updatePass, cycle_beginPass]

end Sys2Proof.Machine
end

section
/-! The pass as a list of twelve like steps (40_update_dispatcher.md R67, R68), so that what one step does carries over
to the pass by induction. -/

namespace Sys2Proof.Machine

/-- The order in which a pass steps the counters (R67, R68). -/
def passOrder : List CounterRef :=
  [.timer 0, .timer 2, .timer 4, .timer 1, .timer 3, .timer 5, .timer 7, .audio 0, .audio 1, .audio 2, .audio 3,
    .timer 6]

/-- What an underflow of the counter runs (41_timers.md R84 to R91; 42_audio.md R102). -/
def CounterRef.action : CounterRef → State → State
  | .timer n =>
    if n = 0 then renderLine else if n = 2 then endOfFrame else if n = 4 then uartTick
    else fun s => s.raiseIfEnabled n
  | .audio c => audioUnderflow c

/-- The counter's step (41_timers.md R84 to R91; 42_audio.md R102). -/
def CounterRef.stepCounter (ref : CounterRef) (s : State) : State :=
  if ref = .timer 0 then stepTimer0 s
  else counterStep ref (decide (ref ≠ .timer 6)) (sourceBorrow s ref) (shiftBase ref) ref.action s

/-- The serial level follows Timer 4 (R67). -/
def CounterRef.settle (ref : CounterRef) : State → State := if ref = .timer 4 then serialLevelAssert else id

/-- One of the twelve steps of a pass: the counter's step, its prediction, the serial level after Timer 4. -/
def passStep (s : State) (ref : CounterRef) : State := ref.settle (predict ref (shiftBase ref) (ref.stepCounter s))

/-- The pass as the model writes it, step for step (R67). -/
theorem updatePass_eq_foldl (s : State) : updatePass s = passOrder.foldl passStep (beginPass s) := by
  simp [updatePass, passTimer6, passAudio, passChannel, passGroupB, passGroupA, passOrder, passStep, CounterRef.settle,
    CounterRef.stepCounter, CounterRef.action, shiftBase, sourceBorrow, linkSource, stepTimer1, stepTimer2, stepTimer3,
    stepTimer4, stepTimer5, stepTimer6, stepTimer7, stepAudio, timerBorrow_counter, audioSource_counter]

/-- A pass steps every counter, once. -/
theorem mem_passOrder (ref : CounterRef) : ref ∈ passOrder := by
  cases ref with
  | timer n => revert n; decide
  | audio c => revert c; decide

theorem nodup_passOrder : passOrder.Nodup := by decide

/-- A counter is stepped after its link source (R68, R73). -/
theorem idxOf_linkSource {ref src : CounterRef} (h : linkSource ref = some src) :
    passOrder.idxOf src < passOrder.idxOf ref := by
  have hall : ∀ r : CounterRef, (linkSource r).all fun src => decide (passOrder.idxOf src < passOrder.idxOf r) := by
    rintro (n | c)
    · revert n; decide
    · revert c; decide
  simpa [h] using hall ref

/-! ### One step -/

/-- Everything a counter's step can do (R70, R71): the counter is stopped, linked or clocked. -/
theorem stepCounter_cases (ref : CounterRef) (s : State) :
    (s.predictCounting ref = false ∧ ref.stepCounter s = s.setCounter ref (s.counter ref).idle) ∨
    (s.predictCounting ref = true ∧ s.predictClocked ref = false ∧
      ref.stepCounter s = consumeTicks ref (if sourceBorrow s ref then 1 else 0) ref.reload ref.action
        (s.setLinkCarry ref (sourceBorrow s ref))) ∨
    (s.predictCounting ref = true ∧ s.predictClocked ref = true ∧
      ref.stepCounter s = consumeTicks ref ((s.counter ref).elapsedTicks s.cycle (shiftBase ref)) ref.reload ref.action
        (s.setCounter ref
          ((s.counter ref).sync ((s.counter ref).elapsedTicks s.cycle (shiftBase ref)) (shiftBase ref)))) := by
  by_cases h0 : ref = .timer 0
  · subst h0
    cases hc : (s.counter (.timer 0)).enableCount
    · exact .inl ⟨hc, by simp [CounterRef.stepCounter, stepTimer0, hc]⟩
    · refine .inr (.inr ⟨hc, rfl, ?_⟩)
      simp [CounterRef.stepCounter, stepTimer0, hc, CounterRef.reload, CounterRef.action, shiftBase]
  · rw [predictCounting_of_ne s h0, CounterRef.stepCounter, if_neg h0, CounterRef.reload, if_neg h0]
    obtain ⟨hc, e⟩ | ⟨hc, h6, hlink, e⟩ | ⟨hc, hk, e⟩ := counterStep_cases ref (decide (ref ≠ .timer 6))
      (sourceBorrow s ref) (shiftBase ref) ref.action s
    · exact .inl ⟨hc, e⟩
    · exact .inr (.inl ⟨hc, predictClocked_eq_false.2 ⟨h0, of_decide_eq_true h6, hlink⟩, e⟩)
    · refine .inr (.inr ⟨hc, ?_, e⟩)
      rw [← Bool.not_eq_false, predictClocked_eq_false]
      rintro ⟨-, h6, hlink⟩
      exact hk.elim (fun h => of_decide_eq_false h h6) (fun h => h hlink)

/-- A timer's action writes the interrupt status, the display, the surface, the UART and the output trace alone. -/
theorem timerAction_changes (n : Fin 8) (s : State) :
    ∃ i d f u e, (CounterRef.timer n).action s =
      { s with intStatus := i, display := d, surface := f, uart := u, events := s.events ++ e } := by
  simp only [CounterRef.action]
  split
  · obtain ⟨i, d, f, e, h⟩ := renderLine_only s
    exact ⟨i, d, f, s.uart, e, h⟩
  split
  · obtain ⟨i, d, f, e, h⟩ := endOfFrame_only s
    exact ⟨i, d, f, s.uart, e, h⟩
  split
  · obtain ⟨e, h⟩ := uartTick_changes s
    exact ⟨s.intStatus, s.display, s.surface, _, e, h⟩
  · obtain ⟨i, d, f, e, h⟩ := raiseIfEnabled_only s n
    exact ⟨i, d, f, s.uart, e, h⟩

theorem action_timers (ref : CounterRef) (s : State) : (ref.action s).timers = s.timers := by
  cases ref with
  | audio c => obtain ⟨e, h⟩ := audioUnderflow_changes c s; rw [CounterRef.action, h]
  | timer n => obtain ⟨i, d, f, u, e, h⟩ := timerAction_changes n s; rw [h]

theorem counterBlind_action (ref : CounterRef) : CounterBlind ref.action := by
  cases ref with
  | audio c => exact counterBlind_audioUnderflow c
  | timer n =>
    refine ⟨fun s r => ?_, fun s => ?_⟩ <;> obtain ⟨i, d, f, u, e, h⟩ := timerAction_changes n s <;> rw [h]
    exact State.counter_congr rfl rfl r

/-- A property that counter and link carry writes and the counter's action keep passes through the counter's step. -/
theorem stepCounter_keeps {P : State → Prop} {ref : CounterRef} (hset : ∀ s x, P s → P (s.setCounter ref x))
    (hlink : ∀ s b, P s → P (s.setLinkCarry ref b)) (haction : ∀ s, P s → P (ref.action s)) {s : State}
    (h : P s) : P (ref.stepCounter s) := by
  obtain ⟨-, e⟩ | ⟨-, -, e⟩ | ⟨-, -, e⟩ := stepCounter_cases ref s <;> rw [e]
  · exact hset _ _ h
  · exact consumeTicks_keeps hset haction _ _ (hlink _ _ h)
  · exact consumeTicks_keeps hset haction _ _ (hset _ _ h)

theorem settle_changes (ref : CounterRef) (s : State) : ∃ i, ref.settle s = { s with intStatus := i } := by
  unfold CounterRef.settle
  split
  · unfold serialLevelAssert
    split
    · exact ⟨_, rfl⟩
    · exact ⟨s.intStatus, rfl⟩
  · exact ⟨s.intStatus, rfl⟩

/-- Prediction and the serial level write `next_event` and `int_status` alone. -/
theorem passStep_changes (s : State) (ref : CounterRef) :
    ∃ n i, passStep s ref = { ref.stepCounter s with nextEvent := n, intStatus := i } := by
  obtain ⟨n, hn⟩ := predict_changes ref (shiftBase ref) (ref.stepCounter s)
  obtain ⟨i, hi⟩ := settle_changes ref { ref.stepCounter s with nextEvent := n }
  exact ⟨n, i, by rw [passStep, hn, hi]⟩

theorem counter_passStep (s : State) (ref r : CounterRef) :
    (passStep s ref).counter r = (ref.stepCounter s).counter r := by
  obtain ⟨n, i, h⟩ := passStep_changes s ref
  rw [h]
  exact State.counter_congr rfl rfl r

/-- A step leaves every other counter alone. -/
theorem counter_passStep_ne {ref r : CounterRef} (h : r ≠ ref) (s : State) :
    (passStep s ref).counter r = s.counter r := by
  rw [counter_passStep]
  exact stepCounter_keeps (P := fun t => t.counter r = s.counter r)
    (fun t x ht => (t.counter_setCounter_ne x h).trans ht) (fun t b ht => (t.counter_setLinkCarry ref r b).trans ht)
    (fun t ht => ((counterBlind_action ref).counter t r).trans ht) rfl

/-- The counter's action leaves every link carry alone. -/
theorem lastLinkCarry_action (ref : CounterRef) (n : Fin 8) (s : State) :
    ((ref.action s).timer n).lastLinkCarry = (s.timer n).lastLinkCarry := by
  rw [State.timer, action_timers]; rfl

theorem lastLinkCarry_consumeTicks (r ref : CounterRef) (n : Fin 8) (ticks : Stamp) (reload : Counter → Counter)
    (s : State) :
    ((consumeTicks r ticks reload ref.action s).timer n).lastLinkCarry = (s.timer n).lastLinkCarry :=
  consumeTicks_keeps (P := fun t => (t.timer n).lastLinkCarry = (s.timer n).lastLinkCarry)
    (fun t x ht => (t.lastLinkCarry_setCounter r x n).trans ht) (fun t ht => (lastLinkCarry_action ref n t).trans ht)
    ticks reload rfl

/-- A step leaves every other timer's link carry alone. -/
theorem lastLinkCarry_passStep_ne {ref : CounterRef} {n : Fin 8} (h : .timer n ≠ ref) (s : State) :
    ((passStep s ref).timer n).lastLinkCarry = (s.timer n).lastLinkCarry := by
  obtain ⟨e, i, hstep⟩ := passStep_changes s ref
  rw [hstep]
  refine stepCounter_keeps (P := fun t => (t.timer n).lastLinkCarry = (s.timer n).lastLinkCarry)
    (fun t x ht => (t.lastLinkCarry_setCounter ref x n).trans ht) (fun t b ht => ?_)
    (fun t ht => (lastLinkCarry_action ref n t).trans ht) rfl
  cases ref with
  | audio c => exact ht
  | timer m =>
    have hne : n ≠ m := fun e => h (congrArg _ e)
    rw [State.setLinkCarry, State.timer_setTimer_ne _ _ hne, ht]

/-- A linked timer that counts latches its source's borrow (R71, D40). -/
theorem lastLinkCarry_passStep {s : State} {n : Fin 8} (hc : s.predictCounting (.timer n) = true)
    (hl : s.predictClocked (.timer n) = false) :
    ((passStep s (.timer n)).timer n).lastLinkCarry = sourceBorrow s (.timer n) := by
  obtain ⟨e, i, hstep⟩ := passStep_changes s (.timer n)
  rw [hstep]
  change (((CounterRef.timer n).stepCounter s).timer n).lastLinkCarry = _
  obtain ⟨hc', -⟩ | ⟨-, -, e⟩ | ⟨-, hk, -⟩ := stepCounter_cases (.timer n) s
  · rw [hc] at hc'; cases hc'
  · rw [e, lastLinkCarry_consumeTicks]
    simp [State.setLinkCarry]
  · rw [hl] at hk; cases hk

/-! ### From the steps to the pass -/

/-- What every step of a list keeps, the list keeps. -/
theorem foldl_passStep_keeps {α : Type} (g : State → α) (l : List CounterRef)
    (h : ∀ ref ∈ l, ∀ s, g (passStep s ref) = g s) (s : State) : g (l.foldl passStep s) = g s := by
  induction l generalizing s with
  | nil => rfl
  | cons ref l ih =>
    rw [List.foldl_cons, ih fun r hr => h r (List.mem_cons_of_mem _ hr)]
    exact h ref List.mem_cons_self s

theorem counter_foldl_passStep {l : List CounterRef} {ref : CounterRef} (h : ref ∉ l) (s : State) :
    (l.foldl passStep s).counter ref = s.counter ref :=
  foldl_passStep_keeps (fun s => s.counter ref) l (fun _ hr => counter_passStep_ne fun e => h (e ▸ hr)) s

/-- The place of a counter's step in the pass: it is stepped once, after its link source. -/
theorem passOrder_split (ref : CounterRef) :
    ∃ before after, passOrder = before ++ ref :: after ∧ ref ∉ before ∧ ref ∉ after ∧
      ∀ src, linkSource ref = some src → src ∉ ref :: after := by
  obtain ⟨before, after, h⟩ := List.append_of_mem (mem_passOrder ref)
  have hnodup := nodup_passOrder
  rw [h] at hnodup
  obtain ⟨-, hcons, hdisjoint⟩ := List.nodup_append'.1 hnodup
  have hbefore : ref ∉ before := fun hb => hdisjoint hb List.mem_cons_self
  refine ⟨before, after, h, hbefore, (List.nodup_cons.1 hcons).1, fun src hsrc hafter => ?_⟩
  have hlt := idxOf_linkSource hsrc
  rw [h, List.idxOf_append_of_notMem hbefore, List.idxOf_append_of_notMem fun hb => hdisjoint hb hafter,
    List.idxOf_cons_self] at hlt
  omega

theorem predictCounting_congr {s t : State} {ref : CounterRef} (h : t.counter ref = s.counter ref) :
    t.predictCounting ref = s.predictCounting ref := by
  simp only [State.predictCounting, h]

theorem predictClocked_congr {s t : State} {ref : CounterRef}
    (h : (t.counter ref).linking = (s.counter ref).linking) : t.predictClocked ref = s.predictClocked ref := by
  simp only [State.predictClocked, h]

theorem predictCounting_beginPass (s : State) (ref : CounterRef) :
    (beginPass s).predictCounting ref = s.predictCounting ref := by
  simp only [State.predictCounting, counter_beginPass]; rfl

theorem sourceBorrow_eq {ref src : CounterRef} (h : linkSource ref = some src) (s : State) :
    sourceBorrow s ref = (s.counter src).borrowOut := by
  simp only [sourceBorrow, h]

theorem sourceBorrow_congr {s t : State} {ref : CounterRef}
    (h : ∀ src, linkSource ref = some src → t.counter src = s.counter src) :
    sourceBorrow t ref = sourceBorrow s ref := by
  unfold sourceBorrow
  split
  · next src hsrc => rw [h src hsrc]
  · rfl

/-- The link carry a pass leaves in a linked timer that counts is its source's borrow after the pass. -/
theorem lastLinkCarry_updatePass {s : State} {n : Fin 8} (hc : s.predictCounting (.timer n) = true)
    (hl : s.predictClocked (.timer n) = false) :
    ((updatePass s).timer n).lastLinkCarry = sourceBorrow (updatePass s) (.timer n) := by
  obtain ⟨before, after, h, hbefore, hafter, hsrc⟩ := passOrder_split (.timer n)
  rw [updatePass_eq_foldl, h, List.foldl_append]
  have hself := counter_foldl_passStep hbefore (beginPass s)
  generalize before.foldl passStep (beginPass s) = p at hself
  have hc' : p.predictCounting (.timer n) = true := by
    rw [predictCounting_congr hself, predictCounting_beginPass, hc]
  have hl' : p.predictClocked (.timer n) = false := by
    rw [← hl]
    exact predictClocked_congr (by rw [hself, counter_beginPass]; rfl)
  calc (((CounterRef.timer n :: after).foldl passStep p).timer n).lastLinkCarry
      = ((passStep p (.timer n)).timer n).lastLinkCarry :=
        foldl_passStep_keeps (fun s => (s.timer n).lastLinkCarry) after
          (fun r hr => lastLinkCarry_passStep_ne fun e => hafter (e ▸ hr)) _
    _ = sourceBorrow p (.timer n) := lastLinkCarry_passStep hc' hl'
    _ = sourceBorrow ((CounterRef.timer n :: after).foldl passStep p) (.timer n) :=
        (sourceBorrow_congr fun src h => counter_foldl_passStep (hsrc src h) p).symm

end Sys2Proof.Machine

open Sys2Proof.Machine

/-- Settles O49: such a counter is idled by the pass, Timer 1 because its source is the constant 0. -/
theorem stoppedCounterStands : Obligations.StoppedCounterStands := by
  intro s t ref ht h
  obtain rfl := exec_update_eq ht
  have hidle : (updatePass s).counter ref = ((s.counter ref).rebase (passShift s)).idle ∧
      (ref = .timer 1 → s.predictCounting ref = true → ((updatePass s).timer 1).lastLinkCarry = false) := by
    cases hc : s.predictCounting ref
    · exact ⟨counter_updatePass_stopped hc, fun _ h => by cases h⟩
    · rw [hc] at h
      obtain ⟨rfl, hlink⟩ : ref = .timer 1 ∧ (s.counter ref).linking = 7 := h.resolve_left (by decide)
      have hl : s.predictClocked (.timer 1) = false := predictClocked_eq_false.2 ⟨by decide, by decide, hlink⟩
      exact ⟨(counter_updatePass_linked hc hl).trans (Counter.ticked_zero _ _),
        fun _ _ => lastLinkCarry_updatePass hc hl⟩
  obtain ⟨hcounter, hcarry⟩ := hidle
  refine ⟨_, rfl, ?_, ?_, hcarry⟩
  · rw [hcounter]; rfl
  · rw [hcounter, cycle_updatePass_shift]
    exact Counter.phase_rebase (s.counter ref) s.cycle (passShift s)

/-- Settles O48: the counter consumes its source's borrow, one tick or none, and latches it. -/
theorem linkedCounterFollowsItsSource : Obligations.LinkedCounterFollowsItsSource := by
  intro s t ref src ht hsrc hc hlink
  obtain rfl := exec_update_eq ht
  have h0 : ref ≠ .timer 0 := by rintro rfl; cases hsrc
  have h6 : ref ≠ .timer 6 := by rintro rfl; cases hsrc
  rw [← predictCounting_of_ne s h0] at hc
  have hl : s.predictClocked ref = false := predictClocked_eq_false.2 ⟨h0, h6, hlink⟩
  have hy := counter_updatePass_linked hc hl
  rw [sourceBorrow_eq hsrc] at hy
  refine ⟨s.counter ref, _, rfl, rfl, fun hb => ?_, fun hb => ?_, ?_, ?_⟩
  · rw [hb] at hy
    rw [hy.trans (Counter.ticked_zero _ _)]
    exact ⟨rfl, rfl, rfl, rfl⟩
  · rw [hb] at hy
    refine ⟨by rw [hy]; rfl, fun hpos => ?_, fun hneg => ?_⟩
    · rw [hy.trans (Counter.ticked_one_of_pos (x := (s.counter ref).rebase (passShift s)) hpos ref)]
      exact ⟨rfl, rfl, rfl⟩
    · rw [hy.trans (Counter.ticked_one_of_nonpos (x := (s.counter ref).rebase (passShift s)) hneg h0)]
      exact ⟨rfl, rfl, rfl⟩
  · rw [hy, cycle_updatePass_shift]
    exact Counter.phase_rebase (s.counter ref) s.cycle (passShift s)
  · rintro n rfl
    rw [lastLinkCarry_updatePass hc hl, sourceBorrow_eq hsrc]

end

section
/-! The schedule of a clocked counter (40_update_dispatcher.md R71, R72, R75, R76): the ticks of a pass as a quotient,
and where a pass leaves the phase and the due cycle. -/

namespace Sys2Proof.Machine

theorem Counter.elapsedTicks_toNat (x : Counter) (cycle : Stamp) (sh : Nat) :
    (x.elapsedTicks cycle sh).toNat = (cycle - x.lastClock).toNat / 2 ^ x.shift sh := by
  rw [Counter.elapsedTicks, BitVec.toNat_ushiftRight, Nat.shiftRight_eq_div_pow]

/-- The ticks taken, in cycles. -/
theorem Counter.sync_lastClock (x : Counter) (ticks : Stamp) (sh : Nat) :
    (x.sync ticks sh).lastClock = x.lastClock + BitVec.ofNat 32 (ticks.toNat * 2 ^ x.shift sh) := by
  have hshift : ticks <<< x.shift sh = BitVec.ofNat 32 (ticks.toNat * 2 ^ x.shift sh) :=
    BitVec.eq_of_toNat_eq (by rw [BitVec.toNat_shiftLeft, BitVec.toNat_ofNat, Nat.shiftLeft_eq])
  rw [Counter.sync, hshift]

/-- No tick is lost: a sync leaves the part of a tick that has passed as the stamp's age (R71). -/
theorem Counter.age_sync (x : Counter) (cycle : Stamp) (sh : Nat) :
    (cycle - (x.sync (x.elapsedTicks cycle sh) sh).lastClock).toNat =
      (cycle - x.lastClock).toNat % 2 ^ x.shift sh := by
  rw [Counter.sync_lastClock, Counter.elapsedTicks_toNat, ← sub_sub]
  generalize cycle - x.lastClock = age
  have hle : age.toNat / 2 ^ x.shift sh * 2 ^ x.shift sh ≤ age.toNat := Nat.div_mul_le_self _ _
  have htaken : (BitVec.ofNat 32 (age.toNat / 2 ^ x.shift sh * 2 ^ x.shift sh)).toNat =
      age.toNat / 2 ^ x.shift sh * 2 ^ x.shift sh := by
    rw [BitVec.toNat_ofNat, Nat.mod_eq_of_lt (lt_of_le_of_lt hle age.isLt)]
  rw [BitVec.toNat_sub_of_le (BitVec.le_def.2 (htaken.trans_le hle)), htaken, Nat.mod_eq_sub_div_mul]

/-- A due cycle `m` ticks after a sync, measured from the stamp before it. -/
theorem Counter.due_sync (x : Counter) (ticks : Stamp) (sh m : Nat) :
    (x.sync ticks sh).lastClock + BitVec.ofNat 32 (m * 2 ^ x.shift sh) =
      x.lastClock + BitVec.ofNat 32 ((ticks.toNat + m) * 2 ^ x.shift sh) := by
  rw [Counter.sync_lastClock, add_assoc, ← BitVec.ofNat_add, ← add_mul]

theorem Counter.ticksToUnderflow_eq (x : Counter) : x.ticksToUnderflow = x.current.toNat + 1 := by
  unfold Counter.ticksToUnderflow
  split <;> omega

/-- The cycles from a counter's last sync to its next underflow (R75, R76). -/
def Counter.span (x : Counter) (sh : Nat) : Nat := (x.current.toNat + 1) * 2 ^ x.shift sh

theorem Counter.nextUnderflow_eq (x : Counter) (sh : Nat) :
    x.nextUnderflow sh = x.lastClock + BitVec.ofNat 32 (x.span sh) := by
  rw [Counter.nextUnderflow, Counter.ticksToUnderflow_eq, Nat.shiftLeft_eq, Counter.span]

/-- The ticks of a pass underflow a counter exactly from its due cycle on (R71, R75). -/
theorem Counter.underflows_elapsed (x : Counter) (cycle : Stamp) (sh : Nat) :
    x.underflows (x.elapsedTicks cycle sh) =
      decide (x.span sh ≤ (cycle - x.lastClock).toNat) := by
  rw [Counter.underflows, decide_eq_decide, Counter.span, ← Nat.le_div_iff_mul_le (Nat.two_pow_pos _),
    ← x.elapsedTicks_toNat cycle sh, ne_eq, BitVec.toNat_eq]
  generalize (x.elapsedTicks cycle sh).toNat = n
  change ¬ n = 0 ∧ _ ↔ _
  omega

section

variable {s : State} {ref : CounterRef}

/-- No tick is lost in a pass, however late (R71). -/
theorem clocked_age (hc : s.predictCounting ref = true) (hk : s.predictClocked ref = true) :
    ((updatePass s).cycle - ((updatePass s).counter ref).lastClock).toNat =
      (s.cycle - (s.counter ref).lastClock).toNat % 2 ^ (s.counter ref).shift (shiftBase ref) := by
  rw [counter_updatePass_clocked hc hk, cycle_updatePass_shift, ← Counter.elapsedTicks_rebase _ _ (passShift s)]
  exact (Counter.age_sync _ _ _).trans (by rw [Counter.age_rebase]; rfl)

/-- A due cycle `m` ticks after a pass's sync, measured from the stamp before the pass. -/
theorem clocked_due (hc : s.predictCounting ref = true) (hk : s.predictClocked ref = true) (m : Nat) :
    ((updatePass s).counter ref).lastClock + BitVec.ofNat 32 (m * 2 ^ (s.counter ref).shift (shiftBase ref)) -
        (updatePass s).cycle =
      (s.counter ref).lastClock + BitVec.ofNat 32
        ((((s.counter ref).elapsedTicks s.cycle (shiftBase ref)).toNat + m) *
          2 ^ (s.counter ref).shift (shiftBase ref)) - s.cycle := by
  rw [counter_updatePass_clocked hc hk, cycle_updatePass_shift]
  change (Counter.sync _ _ _).lastClock +
    BitVec.ofNat 32 (m * 2 ^ ((s.counter ref).rebase (passShift s)).shift _) - _ = _
  rw [Counter.due_sync]
  change _ - passShift s + _ - _ = _
  rw [sub_add_eq_add_sub, sub_sub_sub_cancel_right]
  rfl

/-- Before its due cycle a clocked counter counts its ticks down and does not underflow (R71, R75). -/
theorem clocked_early (hc : s.predictCounting ref = true) (hk : s.predictClocked ref = true)
    (h : (s.cycle - (s.counter ref).lastClock).toNat < (s.counter ref).span (shiftBase ref)) :
    ((updatePass s).counter ref).borrowOut = false ∧ ((updatePass s).counter ref).done = (s.counter ref).done ∧
      ((updatePass s).counter ref).current =
        (s.counter ref).current - (((s.counter ref).elapsedTicks s.cycle (shiftBase ref)).toNat : Int) := by
  have hunder := (Counter.underflows_elapsed _ _ _).trans (decide_eq_false (not_le.2 h))
  rw [counter_updatePass_clocked hc hk]
  refine ⟨hunder, ?_, if_neg (ne_true_of_eq_false hunder)⟩
  exact (congrArg ((s.counter ref).done || ·) hunder).trans (Bool.or_false _)

/-- From its due cycle on a clocked counter underflows and reloads (R71, R72). -/
theorem clocked_late (hc : s.predictCounting ref = true) (hk : s.predictClocked ref = true)
    (h : (s.counter ref).span (shiftBase ref) ≤ (s.cycle - (s.counter ref).lastClock).toNat) :
    ((updatePass s).counter ref).borrowOut = true ∧ ((updatePass s).counter ref).done = true ∧
      ((updatePass s).counter ref).current =
        (s.counter ref).reloaded ref ((s.counter ref).elapsedTicks s.cycle (shiftBase ref)) := by
  have hunder := (Counter.underflows_elapsed _ _ _).trans (decide_eq_true h)
  rw [counter_updatePass_clocked hc hk]
  refine ⟨hunder, ?_, if_pos hunder⟩
  exact (congrArg ((s.counter ref).done || ·) hunder).trans (Bool.or_true _)

theorem clocked_borrowIn (hc : s.predictCounting ref = true) (hk : s.predictClocked ref = true) :
    ((updatePass s).counter ref).borrowIn =
      decide (0 < ((s.counter ref).elapsedTicks s.cycle (shiftBase ref)).toNat) := by
  rw [counter_updatePass_clocked hc hk, Counter.ticked, decide_eq_decide, Nat.pos_iff_ne_zero, ne_eq, ne_eq,
    BitVec.toNat_eq]
  rfl

theorem clocked_nextUnderflow (hc : s.predictCounting ref = true) (hk : s.predictClocked ref = true) :
    ((updatePass s).counter ref).nextUnderflow (shiftBase ref) =
      ((updatePass s).counter ref).lastClock + BitVec.ofNat 32
        ((((updatePass s).counter ref).current.toNat + 1) * 2 ^ (s.counter ref).shift (shiftBase ref)) := by
  rw [Counter.nextUnderflow_eq, counter_updatePass_clocked hc hk]
  rfl

/-- An early pass leaves the due cycle where it was (R75, R76). -/
theorem clocked_early_due (hc : s.predictCounting ref = true) (hk : s.predictClocked ref = true)
    (h : (s.cycle - (s.counter ref).lastClock).toNat < (s.counter ref).span (shiftBase ref)) :
    ((updatePass s).counter ref).nextUnderflow (shiftBase ref) - (updatePass s).cycle =
      (s.counter ref).nextUnderflow (shiftBase ref) - s.cycle := by
  obtain ⟨-, -, hcount⟩ := clocked_early hc hk h
  rw [Counter.span, ← Nat.div_lt_iff_lt_mul (Nat.two_pow_pos _), ← Counter.elapsedTicks_toNat] at h
  rw [clocked_nextUnderflow hc hk, clocked_due hc hk, Counter.nextUnderflow_eq, Counter.span, hcount]
  congr 4
  omega

end

end Sys2Proof.Machine

open Sys2Proof.Machine

/-- Settles O47: the pass takes `elapsed / 2 ^ sh` ticks, which underflow the counter exactly from its due cycle on;
the due cycle before and after the pass is a stamp plus ticks (`clocked_due`). -/
theorem clockedCounterSchedule : Obligations.ClockedCounterSchedule := by
  intro s t ref ht hc hk
  obtain rfl := exec_update_eq ht
  have hticks := (s.counter ref).elapsedTicks_toNat s.cycle (shiftBase ref)
  have hdue := clocked_due hc hk
  have hlate_iff : ∀ m, m * 2 ^ (s.counter ref).shift (shiftBase ref) ≤
      (s.cycle - (s.counter ref).lastClock).toNat ↔
        m ≤ ((s.counter ref).elapsedTicks s.cycle (shiftBase ref)).toNat := fun m => by
    rw [hticks, Nat.le_div_iff_mul_le (Nat.two_pow_pos _)]
  refine ⟨s.counter ref, _, (s.counter ref).shift (shiftBase ref), _, _, _, _, rfl, rfl, rfl, rfl, rfl, rfl, rfl,
    clocked_age hc hk, by rw [clocked_borrowIn hc hk, hticks], fun hearly => ?_, fun hlate => ?_⟩
  · obtain ⟨hborrow, hdone, hcount⟩ := clocked_early hc hk hearly
    refine ⟨hborrow, hdone, by rw [hcount, hticks], ?_⟩
    rw [← clocked_nextUnderflow hc hk, clocked_early_due hc hk hearly, Counter.nextUnderflow_eq, Counter.span]
  · obtain ⟨hborrow, hdone, hcount⟩ := clocked_late hc hk hlate
    rw [hlate_iff] at hlate
    refine ⟨hborrow, hdone, fun hreload => ?_, fun hoff h0 => ?_⟩
    · rw [Counter.reloaded, if_pos hreload] at hcount
      refine ⟨by rw [hcount, hticks], fun hpos hperiod => ?_, fun hpos hperiod => ?_, fun hneg => ?_⟩
      · rw [← add_mul, ← not_le, hlate_iff] at hperiod
        refine ⟨by omega, by omega, ?_⟩
        rw [hdue, ← add_mul]
        congr 4
        omega
      · rw [← add_mul, hlate_iff] at hperiod
        omega
      · rw [clocked_nextUnderflow hc hk, Int.toNat_of_nonpos hneg.le, zero_add, one_mul]
    · rw [hcount, Counter.reloaded, if_neg (by simp [hoff, h0])]

end

section
/-! What a pass predicts (40_update_dispatcher.md R76): `next_event` is the least of the clocked counters' due cycles,
and each of them lies ahead of `cycle`. -/

namespace Sys2Proof.Machine

/-- The cycle at which the counter is due, if it counts on the clock (R76). -/
def State.due (s : State) (ref : CounterRef) : Option Stamp :=
  if s.predictCounting ref && s.predictClocked ref then some ((s.counter ref).nextUnderflow (shiftBase ref)) else none

theorem State.due_eq_some {s : State} {ref : CounterRef} {t : Stamp} :
    s.due ref = some t ↔ s.predictCounting ref = true ∧ s.predictClocked ref = true ∧
      (s.counter ref).nextUnderflow (shiftBase ref) = t := by
  simp [State.due, and_assoc]

theorem State.due_eq_none {s : State} {ref : CounterRef} :
    s.due ref = none ↔ s.predictCounting ref = false ∨ s.predictClocked ref = false := by
  rw [State.due]
  cases s.predictCounting ref <;> simp

theorem State.due_congr {s t : State} {ref : CounterRef} (h : t.counter ref = s.counter ref) :
    t.due ref = s.due ref := by
  rw [State.due, State.due, predictCounting_congr h, predictClocked_congr (s := s) (by rw [h]), h]

/-- The earlier of a published cycle and a due one (R76). -/
def earlier (n t : Stamp) : Stamp := if t < n then t else n

theorem earlier_le (n t : Stamp) : earlier n t ≤ n ∧ earlier n t ≤ t := by
  unfold earlier
  split
  · next h => exact ⟨BitVec.le_of_lt h, BitVec.le_refl t⟩
  · next h => exact ⟨BitVec.le_refl n, BitVec.not_lt.1 h⟩

theorem earlier_mem (n t : Stamp) : earlier n t = n ∨ earlier n t = t := by
  unfold earlier
  split
  · exact .inr rfl
  · exact .inl rfl

theorem foldl_earlier_le (l : List Stamp) (n : Stamp) :
    l.foldl earlier n ≤ n ∧ ∀ t ∈ l, l.foldl earlier n ≤ t := by
  induction l generalizing n with
  | nil => exact ⟨BitVec.le_refl n, by simp⟩
  | cons a l ih =>
    obtain ⟨hn, hl⟩ := ih (earlier n a)
    obtain ⟨hn', ha⟩ := earlier_le n a
    refine ⟨BitVec.le_trans hn hn', fun t ht => ?_⟩
    rcases List.mem_cons.1 ht with rfl | ht
    · exact BitVec.le_trans hn ha
    · exact hl t ht

theorem foldl_earlier_mem (l : List Stamp) (n : Stamp) : l.foldl earlier n = n ∨ l.foldl earlier n ∈ l := by
  induction l generalizing n with
  | nil => exact .inl rfl
  | cons a l ih =>
    rw [List.foldl_cons]
    rcases ih (earlier n a) with h | h
    · rw [h]
      exact (earlier_mem n a).imp_right fun e => List.mem_cons.2 (.inl e)
    · exact .inr (List.mem_cons_of_mem _ h)

theorem nextEvent_stepCounter (ref : CounterRef) (s : State) : (ref.stepCounter s).nextEvent = s.nextEvent := by
  refine stepCounter_keeps (P := fun t => t.nextEvent = s.nextEvent) (fun t x ht => by simpa using ht)
    (fun t b ht => by simpa using ht) (fun t ht => ?_) rfl
  rw [← ht]
  cases ref with
  | audio c => obtain ⟨e, h⟩ := audioUnderflow_changes c t; rw [CounterRef.action, h]
  | timer n => obtain ⟨i, d, f, u, e, h⟩ := timerAction_changes n t; rw [h]

theorem nextEvent_predict (ref : CounterRef) (s : State) :
    (predict ref (shiftBase ref) s).nextEvent = (s.due ref).toList.foldl earlier s.nextEvent := by
  unfold predict State.due State.publish
  split
  · simp only [Option.toList_some, List.foldl_cons, List.foldl_nil, earlier]
    split <;> rfl
  · rfl

theorem nextEvent_passStep (s : State) (ref : CounterRef) :
    (passStep s ref).nextEvent = ((passStep s ref).due ref).toList.foldl earlier s.nextEvent := by
  obtain ⟨i, hi⟩ := settle_changes ref (predict ref (shiftBase ref) (ref.stepCounter s))
  have hdue : (passStep s ref).due ref = (ref.stepCounter s).due ref :=
    State.due_congr (counter_passStep s ref ref)
  rw [hdue, ← nextEvent_stepCounter ref s, ← nextEvent_predict, passStep, hi]

theorem nextEvent_foldl {l : List CounterRef} (hl : l.Nodup) (s : State) :
    (l.foldl passStep s).nextEvent = (l.filterMap (l.foldl passStep s).due).foldl earlier s.nextEvent := by
  induction l generalizing s with
  | nil => rfl
  | cons ref l ih =>
    obtain ⟨hfree, hl⟩ := List.nodup_cons.1 hl
    have hdue : ((ref :: l).foldl passStep s).due ref = (passStep s ref).due ref :=
      State.due_congr (counter_foldl_passStep hfree _)
    have hcons : (ref :: l).filterMap ((ref :: l).foldl passStep s).due =
        ((passStep s ref).due ref).toList ++ l.filterMap (l.foldl passStep (passStep s ref)).due := by
      rw [← hdue, List.filterMap_cons]
      cases ((ref :: l).foldl passStep s).due ref <;> rfl
    rw [hcons, List.foldl_append, ← nextEvent_passStep, List.foldl_cons, ih hl]

theorem nextEvent_beginPass (s : State) : (beginPass s).nextEvent = 0xFFFFFFFF#32 := rfl

/-- After a pass `next_event` is the least due cycle, as the counters stand (R67, R76). -/
theorem nextEvent_updatePass (s : State) :
    (updatePass s).nextEvent = (passOrder.filterMap (updatePass s).due).foldl earlier 0xFFFFFFFF#32 := by
  rw [updatePass_eq_foldl, nextEvent_foldl nodup_passOrder, nextEvent_beginPass]

theorem nextEvent_le_due {s : State} {ref : CounterRef} {t : Stamp} (h : (updatePass s).due ref = some t) :
    (updatePass s).nextEvent ≤ t := by
  rw [nextEvent_updatePass]
  exact (foldl_earlier_le _ _).2 t (List.mem_filterMap.2 ⟨ref, mem_passOrder ref, h⟩)

theorem nextEvent_none_or_due (s : State) :
    ((updatePass s).nextEvent = 0xFFFFFFFF#32 ∧ ∀ ref, (updatePass s).due ref = none) ∨
      ∃ ref, (updatePass s).due ref = some (updatePass s).nextEvent := by
  rw [or_iff_not_imp_right]
  intro hnot
  have hnext : (updatePass s).nextEvent = 0xFFFFFFFF#32 := by
    refine (nextEvent_updatePass s).trans ((foldl_earlier_mem _ _).resolve_right fun hmem => hnot ?_)
    rw [← nextEvent_updatePass] at hmem
    obtain ⟨ref, -, h⟩ := List.mem_filterMap.1 hmem
    exact ⟨ref, h⟩
  refine ⟨hnext, fun ref => Option.eq_none_iff_forall_ne_some.2 fun t ht => hnot ⟨ref, ?_⟩⟩
  have hle := nextEvent_le_due ht
  rw [hnext] at hle
  rw [ht, hnext, BitVec.le_antisymm hle (BitVec.le_def.2 (by have := t.isLt; simp; omega))]

/-! ### A due cycle lies ahead -/

/-- A stamp `due` cycles after a sync that lies less than `due` back is ahead, if it does not wrap. -/
theorem toNat_add_due {cycle stamp : Stamp} {due : Nat} (hage : (cycle - stamp).toNat < due)
    (hroom : cycle.toNat + due < 2 ^ 32) :
    (stamp + BitVec.ofNat 32 due).toNat = cycle.toNat + due - (cycle - stamp).toNat := by
  have := stamp.isLt
  rw [BitVec.toNat_sub] at hage ⊢
  rw [BitVec.toNat_add, BitVec.toNat_ofNat]
  omega

/-- Before that cycle the stamp's age stays below `due`. -/
theorem age_lt_due {cycle stamp c : Stamp} {due : Nat} (hage : (cycle - stamp).toNat < due)
    (hroom : cycle.toNat + due < 2 ^ 32) (hle : cycle ≤ c) (hlt : c < stamp + BitVec.ofNat 32 due) :
    (c - stamp).toNat < due := by
  have := stamp.isLt
  have := c.isLt
  rw [BitVec.lt_def, toNat_add_due hage hroom] at hlt
  rw [BitVec.le_def] at hle
  rw [BitVec.toNat_sub] at hage hlt ⊢
  omega

/-- A pass leaves `cycle` 2^21 cycles, the longest counter period, below the top of the range (R69). -/
theorem cycle_room (s : State) (h : RebaseFits s.params) : (updatePass s).cycle.toNat + 2 ^ 21 < 2 ^ 32 := by
  obtain ⟨hthreshold, hborrow, hdelta⟩ := h
  rw [cycle_updatePass_shift]
  by_cases hlt : s.params.rebaseThreshold < s.cycle
  · have := BitVec.lt_def.1 hlt
    have := s.cycle.isLt
    rw [passShift_of_lt hlt, BitVec.toNat_sub_of_le (BitVec.le_def.2 (by omega))]
    omega
  · rw [BitVec.not_lt] at hlt
    have := BitVec.le_def.1 hlt
    rw [passShift_of_le hlt, BitVec.sub_zero]
    omega

/-- The longest tick is 2^13 cycles (41_timers.md R86). -/
theorem shift_le_of_clocked {s : State} {ref : CounterRef} (hk : s.predictClocked ref = true) :
    (s.counter ref).shift (shiftBase ref) ≤ 13 := by
  have hlink := (s.counter ref).linking.isLt
  by_cases h4 : ref = .timer 4
  · subst h4
    have hne : (s.counter (.timer 4)).linking.toNat ≠ 7 := fun e => by
      rw [predictClocked_eq_false.2 ⟨by decide, by decide, BitVec.eq_of_toNat_eq e⟩] at hk
      cases hk
    rw [Counter.shift, shiftBase, if_pos rfl, Config.baseShift, Config.t4ExtraShift]
    omega
  · rw [Counter.shift, shiftBase, if_neg h4, Config.baseShift]
    omega

/-- Ticks leave a count of at most 255 (R74). -/
theorem Counter.ticked_current_le {x : Counter} (h : x.current ≤ 255) (ref : CounterRef) (ticks : Stamp) :
    (x.ticked ref ticks).current ≤ 255 := by
  have := x.backup.isLt
  simp only [Counter.ticked, Counter.underflows, Counter.reloaded, decide_eq_true_eq]
  split
  · split <;> omega
  · omega

theorem countsInRange_updatePass {s : State} (h : CountsInRange s) : CountsInRange (updatePass s) := by
  intro ref
  cases hc : s.predictCounting ref
  · rw [counter_updatePass_stopped hc]
    exact h ref
  cases hk : s.predictClocked ref
  · rw [counter_updatePass_linked hc hk]
    exact Counter.ticked_current_le (h ref) _ _
  · rw [counter_updatePass_clocked hc hk]
    exact Counter.ticked_current_le (h ref) _ _

/-- A pass opens no gate. -/
theorem predictCounting_of_updatePass {s : State} {ref : CounterRef}
    (h : (updatePass s).predictCounting ref = true) : s.predictCounting ref = true := by
  rw [← Bool.not_eq_false]
  intro hc
  have hsame : (updatePass s).predictCounting ref = s.predictCounting ref := by
    simp only [State.predictCounting, counter_updatePass_stopped hc]
    rfl
  rw [hsame, hc] at h
  cases h

section

variable {s : State} {ref : CounterRef} (hcounts : CountsInRange s) (hfits : RebaseFits s.params)
  (hc : (updatePass s).predictCounting ref = true) (hk : (updatePass s).predictClocked ref = true)

include hcounts hfits hc hk

/-- After a pass a clocked counter was synced less than its span ago, and its span fits below the top of the range. -/
theorem span_updatePass :
    ((updatePass s).cycle - ((updatePass s).counter ref).lastClock).toNat <
        ((updatePass s).counter ref).span (shiftBase ref) ∧
      (updatePass s).cycle.toNat + ((updatePass s).counter ref).span (shiftBase ref) < 2 ^ 32 := by
  have hlink := (updatePass_program s ref).linking
  have hshift : ((updatePass s).counter ref).shift (shiftBase ref) = (s.counter ref).shift (shiftBase ref) := by
    rw [Counter.shift, hlink, Counter.shift]
  have hle13 := shift_le_of_clocked hk
  have hcount := countsInRange_updatePass hcounts ref
  rw [predictClocked_congr hlink] at hk
  rw [clocked_age (predictCounting_of_updatePass hc) hk, ← hshift]
  constructor
  · calc _ < 2 ^ ((updatePass s).counter ref).shift (shiftBase ref) := Nat.mod_lt _ (Nat.two_pow_pos _)
      _ ≤ ((updatePass s).counter ref).span (shiftBase ref) := Nat.le_mul_of_pos_left _ (Nat.succ_pos _)
  · have hspan : ((updatePass s).counter ref).span (shiftBase ref) ≤ 256 * 2 ^ 13 :=
      Nat.mul_le_mul (by omega) (Nat.pow_le_pow_right (by decide) hle13)
    have hroom := cycle_room s hfits
    omega

/-- After a pass every due cycle lies after `cycle` (R76). -/
theorem cycle_lt_nextUnderflow :
    (updatePass s).cycle < ((updatePass s).counter ref).nextUnderflow (shiftBase ref) := by
  obtain ⟨hage, hroom⟩ := span_updatePass hcounts hfits hc hk
  rw [Counter.nextUnderflow_eq, BitVec.lt_def]
  have := toNat_add_due hage hroom
  omega

end

end Sys2Proof.Machine

open Sys2Proof.Machine

/-- Settles O51: `next_event` is the least due cycle or, with none, its start value; due cycles lie ahead. -/
theorem nextEventIsTheEarliestDue : Obligations.NextEventIsTheEarliestDue := by
  intro s t ht hcounts hfits
  obtain rfl := exec_update_eq ht
  refine ⟨fun ref hc hk => nextEvent_le_due (State.due_eq_some.2 ⟨hc, hk, rfl⟩), ?_⟩
  rcases nextEvent_none_or_due s with ⟨hnext, hnone⟩ | ⟨ref, hdue⟩
  · exact .inr ⟨hnext, fun ref => State.due_eq_none.1 (hnone ref)⟩
  · obtain ⟨hc, hk, hdue⟩ := State.due_eq_some.1 hdue
    exact .inl ⟨hdue ▸ cycle_lt_nextUnderflow hcounts hfits hc hk, ref, hc, hk, hdue.symm⟩

end

section
/-! A pass is its engine calls and bookkeeping (40_update_dispatcher.md R67): beside what the underflowed counters'
actions and the serial level do, it moves the counters' running fields and `next_event`. -/

namespace Sys2Proof.Machine

/-- The state with other counters and channels and another `next_event`. -/
def State.withCounters (e : State) (timers : Vector Timer 8) (audio : Vector AudioChannel 4) (next : Stamp) : State :=
  { e with timers := timers, audio := audio, nextEvent := next }

/-- `p` is `e` but for the running fields of the counters, the link carries and `next_event`. -/
structure Bookkept (e p : State) : Prop where
  rest : p = e.withCounters p.timers p.audio p.nextEvent
  channel : ∀ c, p.channel c = { e.channel c with ctr := (p.channel c).ctr }
  program : ∀ ref, (e.counter ref).SameProgram (p.counter ref)

section

variable {e p : State}

/-- An action that neither reads nor writes what may differ carries the relation on. -/
theorem Bookkept.map (h : Bookkept e p) {f : State → State} (ht : (f e).timers = e.timers)
    (ha : (f e).audio = e.audio)
    (hf : f (e.withCounters p.timers p.audio p.nextEvent) = (f e).withCounters p.timers p.audio p.nextEvent) :
    Bookkept (f e) (f p) := by
  have hp : f p = (f e).withCounters p.timers p.audio p.nextEvent := (congrArg f h.rest).trans hf
  have hchannel : ∀ c, (f p).channel c = p.channel c := fun c => by rw [hp]; rfl
  have hcounter : ∀ ref, (f p).counter ref = p.counter ref := fun ref => by
    rw [hp]; exact State.counter_congr rfl rfl ref
  refine ⟨?_, fun c => ?_, fun ref => ?_⟩
  · rw [hp]; rfl
  · have hkept : (f e).channel c = e.channel c := by rw [State.channel, ha]; rfl
    rw [hchannel, hkept]
    exact h.channel c
  · rw [hcounter, State.counter_congr ht ha]
    exact h.program ref

theorem Bookkept.setCounter (h : Bookkept e p) {ref : CounterRef} {x : Counter} (hx : (p.counter ref).SameProgram x) :
    Bookkept e (p.setCounter ref x) := by
  refine ⟨?_, fun c => ?_, fun r => ?_⟩
  · have hset : p.setCounter ref x =
        p.withCounters (p.setCounter ref x).timers (p.setCounter ref x).audio (p.setCounter ref x).nextEvent := by
      cases ref <;> rfl
    exact hset.trans (by rw [h.rest]; rfl)
  · obtain ⟨houtput, hwave, hvolume, hintegrate⟩ := p.channel_setCounter ref x c
    generalize (p.setCounter ref x).channel c = a at houtput hwave hvolume hintegrate
    rw [h.channel c] at houtput hwave hvolume hintegrate
    cases a
    simp_all
  · by_cases hr : r = ref
    · subst hr
      rw [State.counter_setCounter]
      exact (h.program r).trans hx
    · rw [State.counter_setCounter_ne _ _ hr]
      exact h.program r

theorem Bookkept.setLinkCarry (h : Bookkept e p) (ref : CounterRef) (b : Bool) : Bookkept e (p.setLinkCarry ref b) := by
  refine ⟨?_, fun c => ?_, fun r => ?_⟩
  · have hset : p.setLinkCarry ref b =
        p.withCounters (p.setLinkCarry ref b).timers (p.setLinkCarry ref b).audio (p.setLinkCarry ref b).nextEvent := by
      cases ref <;> rfl
    exact hset.trans (by rw [h.rest]; rfl)
  · rw [State.channel_setLinkCarry]
    exact h.channel c
  · rw [State.counter_setLinkCarry]
    exact h.program r

theorem Bookkept.nextEvent (h : Bookkept e p) (n : Stamp) : Bookkept e { p with nextEvent := n } := by
  refine ⟨?_, h.channel, fun ref => ?_⟩
  · rw [h.rest]; rfl
  · rw [State.counter_congr (s := { p with nextEvent := n }) (t := p) rfl rfl]
    exact h.program ref

end

/-! ### The actions of timers -/

section

variable (e : State) (timers : Vector Timer 8) (audio : Vector AudioChannel 4) (next : Stamp)

theorem ite_withCounters (c : Prop) [Decidable c] (a b : State) :
    (if c then a else b).withCounters timers audio next =
      if c then a.withCounters timers audio next else b.withCounters timers audio next :=
  apply_ite (fun s : State => s.withCounters timers audio next) c a b

theorem raiseIfEnabled_withCounters (k : Nat) :
    (e.withCounters timers audio next).raiseIfEnabled k = (e.raiseIfEnabled k).withCounters timers audio next := by
  rw [State.raiseIfEnabled, State.raiseIfEnabled, ite_withCounters]
  rfl

theorem serialLevelAssert_withCounters :
    serialLevelAssert (e.withCounters timers audio next) = (serialLevelAssert e).withCounters timers audio next := by
  rw [serialLevelAssert, serialLevelAssert, ite_withCounters]
  rfl

theorem copyBytes_withCounters (n j : Nat) :
    copyBytes n j (e.withCounters timers audio next) = (copyBytes n j e).withCounters timers audio next := by
  induction n generalizing j e with
  | zero => rfl
  | succ n ih => exact ih (copyByte j e) (j + 1)

theorem drawLine_withCounters :
    drawLine (e.withCounters timers audio next) = (drawLine e).withCounters timers audio next := by
  have hline : ∀ s : State,
      (if s.display.skipFrame then skipLine (s.withCounters timers audio next)
        else copyLine (s.withCounters timers audio next)) =
      (if s.display.skipFrame then skipLine s else copyLine s).withCounters timers audio next := fun s => by
    rw [ite_withCounters]
    exact ite_congr rfl (fun _ => rfl) fun _ => copyBytes_withCounters s timers audio next _ 0
  unfold drawLine
  dsimp only
  rw [ite_withCounters, ite_withCounters]
  refine ite_congr rfl (fun _ => ite_congr rfl (fun _ => rfl) fun _ => ?_) fun _ => rfl
  exact congrArg (fun s : State => { s with display := { s.display with outLine := s.display.outLine + 1 } })
    (hline { e with display := { e.display with dmaLines := e.display.dmaLines - 1 } })

theorem countLine_withCounters :
    countLine (e.withCounters timers audio next) = (countLine e).withCounters timers audio next := by
  rw [countLine, countLine, ite_withCounters]
  rfl

theorem uartTick_withCounters :
    uartTick (e.withCounters timers audio next) = (uartTick e).withCounters timers audio next := by
  simp only [uartTick, transmitTick, ite_withCounters]
  rfl

/-- The line strobe reads of the counters Timer 2's backup alone (43_display.md R131). -/
theorem renderLine_withCounters
    (h : ((e.withCounters timers audio next).counter (.timer 2)).backup = (e.counter (.timer 2)).backup) :
    renderLine (e.withCounters timers audio next) = (renderLine e).withCounters timers audio next := by
  have hlatch : ∀ s : State, s.timers = e.timers →
      latchRest (s.withCounters timers audio next) = (latchRest s).withCounters timers audio next := fun s hs => by
    have hb : ((s.withCounters timers audio next).timer 2).ctr.backup = (s.timer 2).ctr.backup := by
      rw [State.timer, State.timer, hs]; exact h
    rw [latchRest, hb]
    rfl
  have harm : ∀ s : State, s.timers = e.timers →
      armBurst (s.withCounters timers audio next) = (armBurst s).withCounters timers audio next := fun s hs => by
    have hb : ((s.withCounters timers audio next).timer 2).ctr.backup = (s.timer 2).ctr.backup := by
      rw [State.timer, State.timer, hs]; exact h
    rw [armBurst, hb, armBurst, ite_withCounters]
    rfl
  rw [renderLine, renderLine, ite_withCounters, raiseIfEnabled_withCounters, hlatch _ (by simp),
    harm _ (by simp [latchRest]), countLine_withCounters, drawLine_withCounters]
  rfl

/-- So does the frame strobe (R133). -/
theorem endOfFrame_withCounters
    (h : ((e.withCounters timers audio next).counter (.timer 2)).backup = (e.counter (.timer 2)).backup) :
    endOfFrame (e.withCounters timers audio next) = (endOfFrame e).withCounters timers audio next := by
  have hb : ((e.withCounters timers audio next).timer 2).ctr.backup = (e.timer 2).ctr.backup := h
  rw [endOfFrame, endOfFrame, hb]
  exact congrArg (fun s : State => { s with display := { s.display with surfaceBound := false } })
    (raiseIfEnabled_withCounters { e with display := { e.display with
      dmaLines := 0, lineCount := (e.timer 2).ctr.backup } } timers audio next 2)

/-- `Mix` reads of the counters and channels the outputs alone (42_audio.md R104). -/
theorem mix_withCounters (h : ∀ c, ((e.withCounters timers audio next).channel c).output = (e.channel c).output) :
    mix (e.withCounters timers audio next) = (mix e).withCounters timers audio next := by
  have hsums : ∀ s : State, s.audio = e.audio →
      (s.withCounters timers audio next).leftSum = s.leftSum ∧
        (s.withCounters timers audio next).rightSum = s.rightSum :=
    fun s hs => State.sums_congr (fun c => (h c).trans (by rw [State.channel, State.channel, hs])) rfl rfl rfl
  have hleft : mixLeft (e.withCounters timers audio next) = (mixLeft e).withCounters timers audio next := by
    rw [mixLeft, (hsums e rfl).1, mixLeft, ite_withCounters]
    rfl
  have haudio : (mixLeft e).audio = e.audio := by unfold mixLeft; split <;> rfl
  rw [mix, mix, hleft]
  generalize mixLeft e = s at haudio
  rw [mixRight, (hsums s haudio).2, mixRight, ite_withCounters]
  rfl

end

/-! ### An action and a step under the relation -/

section

variable {e p : State}

/-- The LFSR step and the output rule read a channel's counter for its program alone (42_audio.md R102, R103). -/
theorem updateOutput_stepLfsr_ctr (a : AudioChannel) {x : Counter} (h : a.ctr.SameProgram x) (q : Params) :
    (({ a with ctr := x }).stepLfsr q).updateOutput = { (a.stepLfsr q).updateOutput with ctr := x } := by
  have hlfsr : ({ a with ctr := x }).stepLfsr q = { a.stepLfsr q with ctr := x } := by
    simp only [AudioChannel.stepLfsr, h.backup, h.linking]
    split <;> rfl
  have houtput : ∀ b : AudioChannel,
      ({ b with ctr := x }).updateOutput = { b.updateOutput with ctr := x } := fun b => by
    simp only [AudioChannel.updateOutput]
    split <;> rfl
  rw [hlfsr, houtput]

theorem State.counter_setChannel_ne (s : State) (a : AudioChannel) {c : Fin 4} {ref : CounterRef}
    (h : ref ≠ .audio c) : (s.setChannel c a).counter ref = s.counter ref := by
  cases ref with
  | timer n => rfl
  | audio d =>
    have hne : d ≠ c := fun e => h (congrArg _ e)
    rw [State.counter, State.channel_setChannel_ne _ _ hne, State.counter]

theorem Bookkept.setChannel (h : Bookkept e p) {c : Fin 4} (a : AudioChannel) {x : Counter} (ha : a.ctr.SameProgram x) :
    Bookkept (e.setChannel c a) (p.setChannel c { a with ctr := x }) := by
  refine ⟨?_, fun d => ?_, fun ref => ?_⟩
  · exact (congrArg (fun s : State => s.setChannel c { a with ctr := x }) h.rest).trans rfl
  · by_cases hd : d = c
    · subst hd
      rw [State.channel_setChannel, State.channel_setChannel]
    · rw [State.channel_setChannel_ne _ _ hd, State.channel_setChannel_ne _ _ hd]
      exact h.channel d
  · by_cases hr : ref = .audio c
    · subst hr
      simpa [State.counter] using ha
    · rw [State.counter_setChannel_ne _ _ hr, State.counter_setChannel_ne _ _ hr]
      exact h.program ref

theorem Bookkept.audioUnderflow (h : Bookkept e p) (c : Fin 4) :
    Bookkept (audioUnderflow c e) (audioUnderflow c p) := by
  have hparams : p.params = e.params := by rw [h.rest]; rfl
  have hprogram : (e.channel c).ctr.SameProgram (p.channel c).ctr := h.program (.audio c)
  have hstep : Bookkept (e.setChannel c ((e.channel c).stepLfsr e.params).updateOutput)
      (p.setChannel c ((p.channel c).stepLfsr p.params).updateOutput) := by
    rw [h.channel c, hparams, updateOutput_stepLfsr_ctr _ hprogram]
    exact h.setChannel _ (by simpa using hprogram)
  rw [Machine.audioUnderflow, Machine.audioUnderflow]
  generalize e.setChannel c _ = e', p.setChannel c _ = p' at hstep
  obtain ⟨ev, hmix⟩ := mix_changes e'
  refine hstep.map (by rw [hmix]) (by rw [hmix]) (mix_withCounters _ _ _ _ fun d => ?_)
  exact (congrArg AudioChannel.output (hstep.channel d)).trans rfl

theorem Bookkept.action (h : Bookkept e p) (ref : CounterRef) : Bookkept (ref.action e) (ref.action p) := by
  have ht := action_timers ref e
  cases ref with
  | audio c => exact h.audioUnderflow c
  | timer n =>
    have hbackup : ((e.withCounters p.timers p.audio p.nextEvent).counter (.timer 2)).backup =
        (e.counter (.timer 2)).backup := (h.program (.timer 2)).backup
    have ha : ((CounterRef.timer n).action e).audio = e.audio := by
      obtain ⟨i, d, f, u, ev, h⟩ := timerAction_changes n e; rw [h]
    refine h.map ht ha ?_
    simp only [CounterRef.action]
    split
    · exact renderLine_withCounters _ _ _ _ hbackup
    split
    · exact endOfFrame_withCounters _ _ _ _ hbackup
    split
    · exact uartTick_withCounters _ _ _ _
    · exact raiseIfEnabled_withCounters _ _ _ _ _

theorem Bookkept.settle (h : Bookkept e p) (ref : CounterRef) : Bookkept (ref.settle e) (ref.settle p) := by
  obtain ⟨i, hi⟩ := settle_changes ref e
  refine h.map (by rw [hi]) (by rw [hi]) ?_
  rw [CounterRef.settle]
  split
  · exact serialLevelAssert_withCounters _ _ _ _
  · rfl

theorem CounterRef.reload_program (ref : CounterRef) (x : Counter) : x.SameProgram (ref.reload x) := by
  rw [CounterRef.reload_eq]
  exact ⟨rfl, rfl, rfl, rfl⟩

theorem Bookkept.consumeTicks (h : Bookkept e p) (ref : CounterRef) (ticks : Stamp) :
    Bookkept (ranIf ((consumeTicks ref ticks ref.reload ref.action p).counter ref).borrowOut ref.action e)
      (consumeTicks ref ticks ref.reload ref.action p) := by
  obtain ⟨-, hr⟩ | ⟨-, -, hr⟩ | ⟨-, -, hr⟩ := consumeTicks_cases ref ticks ref.reload ref.action p <;> rw [hr]
  · rw [State.counter_setCounter]
    exact h.setCounter ⟨rfl, rfl, rfl, rfl⟩
  · rw [State.counter_setCounter]
    exact h.setCounter ⟨rfl, rfl, rfl, rfl⟩
  · generalize hx : ({ (p.counter ref).tick ticks with borrowOut := true } : Counter) = x
    have hprogram : (p.counter ref).SameProgram x := hx ▸ ⟨rfl, rfl, rfl, rfl⟩
    have hout : (ref.reload ((ref.action (p.setCounter ref x)).counter ref)).borrowOut = true := by
      rw [CounterRef.reload_eq, (counterBlind_action ref).counter, State.counter_setCounter, ← hx]
    rw [State.counter_setCounter, hout]
    exact ((h.setCounter hprogram).action ref).setCounter (ref.reload_program _)

/-- A counter's step runs its action exactly if its borrow stands after it (R71). -/
theorem Bookkept.stepCounter (h : Bookkept e p) (ref : CounterRef) :
    Bookkept (ranIf ((ref.stepCounter p).counter ref).borrowOut ref.action e) (ref.stepCounter p) := by
  obtain ⟨-, hr⟩ | ⟨-, -, hr⟩ | ⟨-, -, hr⟩ := stepCounter_cases ref p <;> rw [hr]
  · rw [State.counter_setCounter]
    exact h.setCounter ⟨rfl, rfl, rfl, rfl⟩
  · exact (h.setLinkCarry ref _).consumeTicks ref _
  · generalize (p.counter ref).elapsedTicks p.cycle (shiftBase ref) = ticks
    generalize hx : (p.counter ref).sync ticks (shiftBase ref) = x
    have hprogram : (p.counter ref).SameProgram x := hx ▸ ⟨rfl, rfl, rfl, rfl⟩
    exact (h.setCounter hprogram).consumeTicks ref ticks

/-- What a step of the pass does beside bookkeeping, for the counters that fired. -/
def passAction (fired : CounterRef → Bool) (e : State) (ref : CounterRef) : State :=
  ref.settle (ranIf (fired ref) ref.action e)

theorem Bookkept.passStep (h : Bookkept e p) {fired : CounterRef → Bool} {ref : CounterRef}
    (hfired : fired ref = ((passStep p ref).counter ref).borrowOut) :
    Bookkept (passAction fired e ref) (passStep p ref) := by
  obtain ⟨n, hn⟩ := predict_changes ref (shiftBase ref) (ref.stepCounter p)
  rw [passAction, hfired, counter_passStep, Machine.passStep, hn]
  exact ((h.stepCounter ref).nextEvent n).settle ref

theorem Bookkept.foldl_passStep {l : List CounterRef} (hl : l.Nodup) {fired : CounterRef → Bool} (h : Bookkept e p)
    (hfired : ∀ ref ∈ l, fired ref = ((l.foldl Machine.passStep p).counter ref).borrowOut) :
    Bookkept (l.foldl (passAction fired) e) (l.foldl Machine.passStep p) := by
  induction l generalizing e p with
  | nil => exact h
  | cons ref l ih =>
    obtain ⟨hfree, hl⟩ := List.nodup_cons.1 hl
    refine ih hl (h.passStep ?_) fun r hr => hfired r (List.mem_cons_of_mem _ hr)
    rw [hfired ref List.mem_cons_self, List.foldl_cons, counter_foldl_passStep hfree]

end

theorem Bookkept.refl (e : State) : Bookkept e e := ⟨rfl, fun _ => rfl, fun _ => ⟨rfl, rfl, rfl, rfl⟩⟩

theorem bookkept_beginPass (s : State) : Bookkept { s with cycle := (beginPass s).cycle } (beginPass s) := by
  by_cases h : s.params.rebaseThreshold < s.cycle
  · rw [beginPass_of_lt h]
    refine ⟨rfl, fun c => ?_, fun ref => ?_⟩
    · simp [State.channel, rebase]
    · rw [State.counter_congr (s := { rebase s with nextEvent := 0xFFFFFFFF }) (t := rebase s) rfl rfl, counter_rebase]
      exact ⟨rfl, rfl, rfl, rfl⟩
  · rw [beginPass_of_le (BitVec.not_lt.1 h)]
    exact (Bookkept.refl _).nextEvent _

/-- A pass is bookkeeping and the actions of the counters whose borrow stands after it, in R67's order. -/
theorem bookkept_updatePass (s : State) :
    Bookkept (passOrder.foldl (passAction fun ref => ((updatePass s).counter ref).borrowOut)
      { s with cycle := (updatePass s).cycle }) (updatePass s) := by
  rw [cycle_updatePass, updatePass_eq_foldl]
  exact (bookkept_beginPass s).foldl_passStep nodup_passOrder fun _ _ => rfl

end Sys2Proof.Machine
end

section
/-! The engine calls of a pass (40_update_dispatcher.md R67) and what a pass leaves of the programmed state
(10_state.md R19 to R31). -/

namespace Sys2Proof.Machine

/-- The state with another interrupt status. -/
def State.withIntStatus (s : State) (i : Byte) : State := { s with intStatus := i }

/-- `t` is `s` but for the interrupt status. -/
def IntOnly (s t : State) : Prop := ∃ i, t = s.withIntStatus i

theorem IntOnly.refl (s : State) : IntOnly s s := ⟨s.intStatus, rfl⟩

theorem IntOnly.trans {s t u : State} (h : IntOnly s t) (h' : IntOnly t u) : IntOnly s u := by
  obtain ⟨i, rfl⟩ := h
  obtain ⟨i', rfl⟩ := h'
  exact ⟨i', rfl⟩

theorem intOnly_raiseIfEnabled (k : Nat) (s : State) : IntOnly s (s.raiseIfEnabled k) := by
  unfold State.raiseIfEnabled
  split
  · exact ⟨_, rfl⟩
  · exact IntOnly.refl s

/-- The other timers raise their interrupt and run no engine (41_timers.md R87 to R91). -/
theorem IntOnly.raises {s t : State} (h : IntOnly s t) (fired : Bool) (k : Nat) :
    IntOnly s (ranIf fired (fun s => s.raiseIfEnabled k) t) := by
  cases fired
  · exact h
  · exact h.trans (intOnly_raiseIfEnabled k t)

/-- The channels' actions neither read nor write the interrupt status. -/
theorem IntOnly.ranAudio {s t : State} (h : IntOnly s t) (fired : Bool) (c : Fin 4) :
    IntOnly (ranIf fired (audioUnderflow c) s) (ranIf fired (audioUnderflow c) t) := by
  cases fired
  · exact h
  obtain ⟨i, rfl⟩ := h
  have hleft : ∀ u : State, mixLeft (u.withIntStatus i) = (mixLeft u).withIntStatus i := fun u => by
    rw [mixLeft, mixLeft, apply_ite (State.withIntStatus · i)]
    rfl
  have hright : ∀ u : State, mixRight (u.withIntStatus i) = (mixRight u).withIntStatus i := fun u => by
    rw [mixRight, mixRight, apply_ite (State.withIntStatus · i)]
    rfl
  have hmix : ∀ u : State, mix (u.withIntStatus i) = (mix u).withIntStatus i := fun u => by
    rw [mix, mix, hleft, hright]
  exact ⟨i, hmix (s.setChannel c ((s.channel c).stepLfsr s.params).updateOutput)⟩

/-- The actions of a pass, written out (R67). -/
theorem passActions_eq (fired : CounterRef → Bool) (e : State) :
    passOrder.foldl (passAction fired) e =
      ranIf (fired (.timer 6)) (fun s => s.raiseIfEnabled 6) (ranIf (fired (.audio 3)) (audioUnderflow 3)
        (ranIf (fired (.audio 2)) (audioUnderflow 2) (ranIf (fired (.audio 1)) (audioUnderflow 1)
        (ranIf (fired (.audio 0)) (audioUnderflow 0) (ranIf (fired (.timer 7)) (fun s => s.raiseIfEnabled 7)
        (ranIf (fired (.timer 5)) (fun s => s.raiseIfEnabled 5) (ranIf (fired (.timer 3)) (fun s => s.raiseIfEnabled 3)
        (ranIf (fired (.timer 1)) (fun s => s.raiseIfEnabled 1) (serialLevelAssert
        (ranIf (fired (.timer 4)) uartTick (ranIf (fired (.timer 2)) endOfFrame
        (ranIf (fired (.timer 0)) renderLine e)))))))))))) := by
  simp only [passOrder, List.foldl_cons, List.foldl_nil, passAction, CounterRef.action, CounterRef.settle,
    reduceCtorEq, CounterRef.timer.injEq, Fin.reduceEq, if_true, if_false, id]
  rfl

/-- Beside the interrupt status the actions of a pass are its engine calls. -/
theorem intOnly_passActions (fired : CounterRef → Bool) (e : State) :
    IntOnly (enginesRun fired e) (passOrder.foldl (passAction fired) e) := by
  rw [passActions_eq, enginesRun]
  generalize ranIf (fired (.timer 4)) uartTick _ = u
  have hu : IntOnly u (serialLevelAssert u) := settle_changes (.timer 4) u
  exact ((((((((hu.raises _ _).raises _ _).raises _ _).raises _ _).ranAudio _ 0).ranAudio _ 1).ranAudio _ 2).ranAudio
    _ 3).raises _ _

/-- What a pass is: `enginesRun` of the counters whose borrow stands after it, and beside it the counter records, the
interrupt status and `next_event` (R67). -/
theorem updatePass_engines (s : State) :
    let e := enginesRun (fun ref => ((updatePass s).counter ref).borrowOut) { s with cycle := (updatePass s).cycle }
    (∀ c, (updatePass s).channel c = { e.channel c with ctr := ((updatePass s).channel c).ctr }) ∧
      updatePass s = { e with
        timers := (updatePass s).timers, audio := (updatePass s).audio, intStatus := (updatePass s).intStatus
        cycle := (updatePass s).cycle, nextEvent := (updatePass s).nextEvent } := by
  intro e
  have hbook := bookkept_updatePass s
  obtain ⟨i, hi⟩ : IntOnly e _ := intOnly_passActions _ _
  rw [hi] at hbook
  generalize e = e at hbook
  generalize updatePass s = t at hbook
  refine ⟨hbook.channel, ?_⟩
  have hstatus : t.intStatus = i := congrArg State.intStatus hbook.rest
  have hcycle : t.cycle = e.cycle := by rw [hbook.rest]; rfl
  rw [hstatus, hcycle]
  exact hbook.rest

/-! ### The programmed state -/

/-- The display fields no engine writes (10_state.md R25). -/
def Display.SameSettings (d d' : Display) : Prop :=
  d' = { d with
    dmaAddr := d'.dmaAddr, dmaLines := d'.dmaLines, lineCount := d'.lineCount, outLine := d'.outLine, rest := d'.rest
    surfaceBound := d'.surfaceBound }

theorem Display.SameSettings.trans {d d' d'' : Display} (h : d.SameSettings d') (h' : d'.SameSettings d'') :
    d.SameSettings d'' :=
  Eq.trans h' (by rw [h])

theorem renderLine_settings (s : State) : s.display.SameSettings (renderLine s).display := by
  have harm : ∀ u : State, u.display.SameSettings (armBurst u).display := fun u => by
    unfold armBurst; split <;> rfl
  have hcount : ∀ u : State, u.display.SameSettings (countLine u).display := fun u => by
    unfold countLine; split <;> rfl
  have hdraw : ∀ u : State, u.display.SameSettings (drawLine u).display := fun u => by
    unfold drawLine
    split
    · dsimp only
      split
      · rfl
      · split
        · rfl
        · rw [copyLine, copyBytes_display]; rfl
    · rfl
  unfold renderLine
  split
  · have hlatch : s.display.SameSettings (latchRest (s.raiseIfEnabled 0)).display := by
      rw [latchRest, State.raiseIfEnabled_display]; rfl
    exact ((hlatch.trans (harm _)).trans (hcount _)).trans (hdraw _)
  · rfl

theorem endOfFrame_settings (s : State) : s.display.SameSettings (endOfFrame s).display := by
  rw [endOfFrame, State.raiseIfEnabled_display]; rfl

/-- The UART fields no engine writes (10_state.md R27, R28). -/
structure Uart.SameSettings (u v : Uart) : Prop where
  parityEnable : v.parityEnable = u.parityEnable
  parityEven : v.parityEven = u.parityEven
  sendBreak : v.sendBreak = u.sendBreak
  txIrqEnable : v.txIrqEnable = u.txIrqEnable
  rxIrqEnable : v.rxIrqEnable = u.rxIrqEnable
  callbackBound : v.callbackBound = u.callbackBound
  rxFraming : v.rxFraming = u.rxFraming

theorem Uart.SameSettings.trans {u v w : Uart} (h : u.SameSettings v) (h' : v.SameSettings w) : u.SameSettings w :=
  ⟨h'.parityEnable.trans h.parityEnable, h'.parityEven.trans h.parityEven, h'.sendBreak.trans h.sendBreak,
    h'.txIrqEnable.trans h.txIrqEnable, h'.rxIrqEnable.trans h.rxIrqEnable, h'.callbackBound.trans h.callbackBound,
    h'.rxFraming.trans h.rxFraming⟩

theorem uartTick_settings (s : State) : s.uart.SameSettings (uartTick s).uart := by
  have hreceive : s.uart.SameSettings (s.uart.receiveTick s.params) := by
    obtain ⟨-, e⟩ | ⟨-, -, e⟩ | ⟨-, -, -, e⟩ | ⟨-, -, -, e⟩ := s.uart.receiveTick_cases s.params <;>
      rw [e] <;> exact ⟨rfl, rfl, rfl, rfl, rfl, rfl, rfl⟩
  have hcomplete : ∀ u : Uart, u.SameSettings (u.completeTransmit s.params) := fun u => by
    unfold Uart.completeTransmit
    rw [Uart.loopback_eq]
    split
    · split <;> exact ⟨rfl, rfl, rfl, rfl, rfl, rfl, rfl⟩
    · exact ⟨rfl, rfl, rfl, rfl, rfl, rfl, rfl⟩
  refine hreceive.trans ?_
  unfold uartTick transmitTick
  dsimp only
  split
  · split
    · split <;> exact hcomplete _
    · exact ⟨rfl, rfl, rfl, rfl, rfl, rfl, rfl⟩
  · exact ⟨rfl, rfl, rfl, rfl, rfl, rfl, rfl⟩

/-- The channel fields no engine writes (10_state.md R22), the feedback switches among them (42_audio.md R100). -/
structure AudioChannel.SameSettings (a b : AudioChannel) : Prop where
  volume : b.volume = a.volume
  integrate : b.integrate = a.integrate
  switches : b.waveshaper.extractLsb' 12 9 = a.waveshaper.extractLsb' 12 9

theorem AudioChannel.SameSettings.trans {a b c : AudioChannel} (h : a.SameSettings b) (h' : b.SameSettings c) :
    a.SameSettings c :=
  ⟨h'.volume.trans h.volume, h'.integrate.trans h.integrate, h'.switches.trans h.switches⟩

theorem lfsrNext_switches (p : Params) (w : BitVec 21) : (lfsrNext p w).extractLsb' 12 9 = w.extractLsb' 12 9 := by
  rw [lfsrNext, BitVec.extractLsb'_append_eq_left]

theorem updateOutput_settings (a : AudioChannel) (p : Params) : a.SameSettings (a.stepLfsr p).updateOutput := by
  have hlfsr : a.SameSettings (a.stepLfsr p) := by
    unfold AudioChannel.stepLfsr
    split
    · exact ⟨rfl, rfl, lfsrNext_switches p _⟩
    · exact ⟨rfl, rfl, rfl⟩
  refine hlfsr.trans ?_
  unfold AudioChannel.updateOutput
  dsimp only
  split <;> exact ⟨rfl, rfl, rfl⟩

/-- What software programmed and no engine writes. -/
structure SettingsKept (s t : State) : Prop where
  channel : ∀ c, (s.channel c).SameSettings (t.channel c)
  mixer : t.mixer = { s.mixer with lastLeft := t.mixer.lastLeft, lastRight := t.mixer.lastRight }
  display : s.display.SameSettings t.display
  uart : s.uart.SameSettings t.uart

/-- A pass leaves what software programmed, as each write of it does. -/
theorem updatePass_settings (s : State) : SettingsKept s (updatePass s) := by
  refine PassKeeps.updatePass (P := SettingsKept s) ?_
    ⟨fun _ => ⟨rfl, rfl, rfl⟩, rfl, rfl, ⟨rfl, rfl, rfl, rfl, rfl, rfl, rfl⟩⟩
  constructor
  · rintro t ref x ⟨hchannel, hmixer, hdisplay, huart⟩
    refine ⟨fun c => (hchannel c).trans ?_, by simpa using hmixer, by simpa using hdisplay, by simpa using huart⟩
    obtain ⟨-, hwave, hvolume, hintegrate⟩ := t.channel_setCounter ref x c
    exact ⟨hvolume, hintegrate, by rw [hwave]⟩
  · rintro t ref b ⟨hchannel, hmixer, hdisplay, huart⟩
    exact ⟨by simpa using hchannel, by simpa using hmixer, by simpa using hdisplay, by simpa using huart⟩
  · rintro t n ⟨hchannel, hmixer, hdisplay, huart⟩
    exact ⟨hchannel, hmixer, hdisplay, huart⟩
  · rintro t ⟨hchannel, hmixer, hdisplay, huart⟩
    refine ⟨fun c => (hchannel c).trans ?_, hmixer, hdisplay, huart⟩
    simp only [State.channel, rebase, Fin.getElem_fin, Vector.getElem_map]
    exact ⟨rfl, rfl, rfl⟩
  · rintro t k ⟨hchannel, hmixer, hdisplay, huart⟩
    exact ⟨hchannel, hmixer, hdisplay, huart⟩
  · rintro t ⟨hchannel, hmixer, hdisplay, huart⟩
    have hsettings := hdisplay.trans (renderLine_settings t)
    obtain ⟨i, d, f, e, h⟩ := renderLine_only t
    rw [h] at hsettings ⊢
    exact ⟨hchannel, hmixer, hsettings, huart⟩
  · rintro t ⟨hchannel, hmixer, hdisplay, huart⟩
    have hsettings := hdisplay.trans (endOfFrame_settings t)
    obtain ⟨i, d, f, e, h⟩ := endOfFrame_only t
    rw [h] at hsettings ⊢
    exact ⟨hchannel, hmixer, hsettings, huart⟩
  · rintro t ⟨hchannel, hmixer, hdisplay, huart⟩
    obtain ⟨e, h⟩ := uartTick_changes t
    have hsettings := huart.trans (uartTick_settings t)
    rw [h]
    exact ⟨hchannel, hmixer, hdisplay, hsettings⟩
  · rintro t c ⟨hchannel, hmixer, hdisplay, huart⟩
    unfold audioUnderflow
    obtain ⟨e, h⟩ := mix_changes (t.setChannel c ((t.channel c).stepLfsr t.params).updateOutput)
    rw [h]
    refine ⟨fun d => (hchannel d).trans ?_, ?_, hdisplay, huart⟩
    · change (t.channel d).SameSettings ((t.setChannel c _).channel d)
      by_cases hd : d = c
      · subst hd
        rw [State.channel_setChannel]
        exact updateOutput_settings _ _
      · rw [State.channel_setChannel_ne _ _ hd]
        exact ⟨rfl, rfl, rfl⟩
    · rw [State.setChannel_mixer, hmixer]

end Sys2Proof.Machine

open Sys2Proof.Machine

/-- Settles O46: `updatePass_engines` says what a pass writes, and its frame, programs and settings what it leaves. -/
theorem updateFrame : Obligations.UpdateFrame := by
  intro s
  obtain ⟨hchannel, hpass⟩ := updatePass_engines s
  obtain ⟨hparams, hmem, hmask, hiodir, hiodat, hhalt, hpending, hresult⟩ := updatePass_frame s
  obtain ⟨hsettings, hmixer, hdisplay, huart⟩ := updatePass_settings s
  refine ⟨updatePass s, _, rfl, rfl, hchannel, hpass, fun adr => by rw [hmem], hparams, hmask, hiodir, hiodat, hhalt,
    hpending, hresult, fun ref => ?_, fun c => ?_, hmixer, hdisplay, huart.parityEnable, huart.parityEven,
    huart.sendBreak, huart.txIrqEnable, huart.rxIrqEnable, huart.callbackBound, huart.rxFraming⟩
  · obtain ⟨hbackup, hcount, hreload, hlinking⟩ := updatePass_program s ref
    exact ⟨hbackup, hcount, hreload, hlinking⟩
  · obtain ⟨hvolume, hintegrate, hswitches⟩ := hsettings c
    exact ⟨hvolume, hintegrate, hswitches⟩

end

section
/-! An extra pass before `next_event` (40_update_dispatcher.md R78): no counter is due, none underflows, and nothing but
counters and `cycle` moves. -/

namespace Sys2Proof.Machine

/-! ### The serial level stands after a pass -/

/-- A level that is asserted stands in the interrupt status (44_uart.md R147). -/
def LevelShown (s : State) : Prop := s.uart.irqLevel = true → s.intStatus ||| (1#8 <<< 4) = s.intStatus

theorem levelShown_serialLevelAssert (s : State) : LevelShown (serialLevelAssert s) := by
  unfold serialLevelAssert
  split
  · exact fun _ => by rw [State.raiseInt_intStatus, BitVec.or_assoc, BitVec.or_self]
  · next hlevel => exact fun h => absurd h hlevel

theorem serialLevelAssert_of_shown {s : State} (h : LevelShown s) : serialLevelAssert s = s := by
  unfold serialLevelAssert
  split
  · next hlevel => rw [State.raiseInt, h hlevel]
  · rfl

theorem LevelShown.raises {s : State} (h : LevelShown s) (fired : Bool) (k : Nat) :
    LevelShown (ranIf fired (fun s => s.raiseIfEnabled k) s) := by
  cases fired
  · exact h
  change LevelShown (s.raiseIfEnabled k)
  unfold State.raiseIfEnabled
  split
  · intro hlevel
    rw [State.raiseInt_intStatus, BitVec.or_assoc, BitVec.or_comm (1#8 <<< k), ← BitVec.or_assoc, h hlevel]
  · exact h

theorem LevelShown.ranAudio {s : State} (h : LevelShown s) (fired : Bool) (c : Fin 4) :
    LevelShown (ranIf fired (audioUnderflow c) s) := by
  cases fired
  · exact h
  obtain ⟨e, hc⟩ := audioUnderflow_changes c s
  change LevelShown (audioUnderflow c s)
  rw [hc]
  exact h

theorem levelShown_passActions (fired : CounterRef → Bool) (e : State) :
    LevelShown (passOrder.foldl (passAction fired) e) := by
  rw [passActions_eq]
  exact (((((((((levelShown_serialLevelAssert _).raises _ 1).raises _ 3).raises _ 5).raises _ 7).ranAudio _ 0).ranAudio
    _ 1).ranAudio _ 2).ranAudio _ 3).raises _ 6

/-- The level asserted after Timer 4 stands when the pass ends: nothing after it writes the UART or clears a bit. -/
theorem levelShown_updatePass (s : State) : LevelShown (updatePass s) := by
  have hbook := bookkept_updatePass s
  have hshown := levelShown_passActions (fun ref => ((updatePass s).counter ref).borrowOut)
    { s with cycle := (updatePass s).cycle }
  generalize passOrder.foldl _ _ = e at hbook hshown
  generalize updatePass s = t at hbook
  rw [hbook.rest]
  exact hshown

/-- A pass in which nothing underflows is bookkeeping and a rebase, if the serial level stands. -/
theorem bookkept_of_quiet {s : State} (hlevel : LevelShown s)
    (h : ∀ ref, ((updatePass s).counter ref).borrowOut = false) :
    Bookkept { s with cycle := (updatePass s).cycle } (updatePass s) := by
  have hnone : ∀ e, passOrder.foldl (passAction fun _ => false) e = serialLevelAssert e := fun e => by
    rw [passActions_eq]; rfl
  have hbook := bookkept_updatePass s
  rw [funext h, hnone] at hbook
  generalize (updatePass s).cycle = cycle at hbook
  have hshown : LevelShown { s with cycle := cycle } := hlevel
  rwa [serialLevelAssert_of_shown hshown] at hbook

/-! ### Nothing is due -/

/-- No counter that counts on the clock has reached its due cycle. -/
def NothingDue (s : State) : Prop :=
  ∀ ref, s.predictCounting ref = true → s.predictClocked ref = true →
    (s.cycle - (s.counter ref).lastClock).toNat < (s.counter ref).span (shiftBase ref)

/-- Between a pass and its `next_event` nothing is due. -/
theorem nothingDue_of_lt_nextEvent {s t : State} (ht : updatePass s = t) (hcounts : CountsInRange s)
    (hfits : RebaseFits s.params) {c : Stamp} (hle : t.cycle ≤ c) (hlt : c < t.nextEvent) :
    NothingDue { t with cycle := c } := by
  intro ref hc hk
  change t.predictCounting ref = true at hc
  change t.predictClocked ref = true at hk
  change (c - (t.counter ref).lastClock).toNat < (t.counter ref).span (shiftBase ref)
  subst ht
  obtain ⟨hage, hroom⟩ := span_updatePass hcounts hfits hc hk
  refine age_lt_due hage hroom hle ?_
  have hdue := nextEvent_le_due (State.due_eq_some.2 ⟨hc, hk, rfl⟩)
  rw [Counter.nextUnderflow_eq] at hdue
  exact BitVec.lt_def.2 (lt_of_lt_of_le (BitVec.lt_def.1 hlt) (BitVec.le_def.1 hdue))

theorem counter_withCycle (s : State) (c : Stamp) (ref : CounterRef) :
    ({ s with cycle := c }).counter ref = s.counter ref :=
  State.counter_congr rfl rfl ref

section

variable {s : State} (hdue : NothingDue s)

include hdue

/-- Then nothing underflows, the linked counters because their sources do not (R73, R78). -/
theorem quiet_of_nothingDue (ref : CounterRef) :
    ((updatePass s).counter ref).borrowOut = false ∧ ((updatePass s).counter ref).done = (s.counter ref).done := by
  induction hn : passOrder.idxOf ref using Nat.strong_induction_on generalizing ref with
  | _ n ih =>
    cases hc : s.predictCounting ref
    · rw [counter_updatePass_stopped hc]
      exact ⟨rfl, rfl⟩
    cases hk : s.predictClocked ref
    · have hsource : sourceBorrow (updatePass s) ref = false := by
        cases hsrc : linkSource ref with
        | none => rw [sourceBorrow, hsrc]
        | some src => rw [sourceBorrow_eq hsrc, (ih _ (hn ▸ idxOf_linkSource hsrc) src rfl).1]
      rw [counter_updatePass_linked hc hk, hsource, if_neg Bool.false_ne_true]
      exact (Counter.ticked_zero _ ref) ▸ ⟨rfl, rfl⟩
    · obtain ⟨hborrow, hdone, -⟩ := clocked_early hc hk (hdue ref hc hk)
      exact ⟨hborrow, hdone⟩

/-- And the due cycles are found again, if the pass does not rebase (R76, R78). -/
theorem due_of_nothingDue (hcycle : (updatePass s).cycle = s.cycle) (ref : CounterRef) :
    (updatePass s).due ref = s.due ref := by
  have hclocked := predictClocked_congr (updatePass_program s ref).linking
  have hcounting : (updatePass s).predictCounting ref = s.predictCounting ref := by
    obtain ⟨hbackup, hcount, hreload, hlinking⟩ := updatePass_program s ref
    simp only [State.predictCounting, Counter.counting, hcount, hreload, (quiet_of_nothingDue hdue ref).2]
  rw [State.due, State.due, hclocked, hcounting]
  split
  · next h =>
    obtain ⟨hc, hk⟩ := Bool.and_eq_true_iff.1 h
    have hsame := clocked_early_due hc hk (hdue ref hc hk)
    rw [hcycle, sub_left_inj] at hsame
    rw [hsame]
  · rfl

end

end Sys2Proof.Machine

open Sys2Proof.Machine

/-- Settles O52: nothing is due before `next_event`, so nothing underflows and the due cycles stay; what is left is
bookkeeping. -/
theorem earlyPassIsQuiet : Obligations.EarlyPassIsQuiet := by
  intro s t u c ht hcounts hfits hle hlt hu
  have hpass := exec_update_eq ht
  have hlevel : LevelShown t := hpass ▸ levelShown_updatePass s
  have hparams : t.params = s.params := hpass ▸ (updatePass_frame s).1
  have hnext : t.nextEvent = (passOrder.filterMap t.due).foldl earlier 0xFFFFFFFF#32 := hpass ▸ nextEvent_updatePass s
  have hdue := nothingDue_of_lt_nextEvent hpass hcounts hfits hle hlt
  generalize hv : ({ t with cycle := c } : State) = v at hu hdue
  have hquiet := quiet_of_nothingDue hdue
  have hbook := bookkept_of_quiet (s := v) (hv ▸ hlevel) fun ref => (hquiet ref).1
  have hsame := due_of_nothingDue hdue
  have hnext' := nextEvent_updatePass v
  have hcycle := cycle_updatePass_shift v
  rw [exec_update_eq hu] at hquiet hbook hsame hnext' hcycle
  subst hv
  refine ⟨fun ref => ?_, hbook.channel, fun hc => ?_, hbook.rest⟩
  · rw [← counter_withCycle t c ref]
    exact hquiet ref
  · rw [passShift_of_le (s := { t with cycle := c }) (hparams ▸ hc), BitVec.sub_zero] at hcycle
    have hdues : u.due = t.due := funext fun ref =>
      (hsame hcycle ref).trans (State.due_congr (counter_withCycle t c ref))
    rw [hnext', hdues, hnext]

end

section
/-! The timer registers (41_timers.md R92 to R99): the words that read them, the bytes bit by bit, and what a field
write of a timer changes and keeps. -/

namespace Sys2Proof

/-- A PEEK word means what the encoder's word for that command means, whatever its ignored `d` field holds
(30_encoding.md R51, R54). -/
theorem decode_peek_of_encode {i : Instr} {a : Byte} (henc : encode i = mkWord 0x0 a 0) (hwf : i.wellFormed = true)
    (d : Byte) : decode (mkWord 0x0 a d) = .ok i := by
  have hd : decode (mkWord 0x0 a d) = decode (mkWord 0x0 a 0) := (ignoredBitsDoNotMatter a a d 0).1
  rw [hd, ← henc, encodeThenDecode i hwf]

end Sys2Proof

namespace Sys2Proof.Machine

/-! ### The bytes read -/

theorem getLsbD_byteOfBits (b7 b6 b5 b4 b3 b2 b1 b0 : Bool) (k : Nat) :
    (byteOfBits b7 b6 b5 b4 b3 b2 b1 b0).getLsbD k = [b0, b1, b2, b3, b4, b5, b6, b7].getD k false := by
  simp only [byteOfBits, BitVec.getLsbD_append, BitVec.getLsbD_ofBool]
  match k with
  | 0 | 1 | 2 | 3 | 4 | 5 | 6 | 7 => simp
  | k + 8 => simp

/-- TIMnCTLA bit by bit (R94). -/
theorem ctlaByte_bits (irqEnable : Bool) (x : Counter) :
    (ctlaByte irqEnable x).getLsbD 7 = irqEnable ∧ (ctlaByte irqEnable x).getLsbD 6 = false ∧
      (ctlaByte irqEnable x).getLsbD 5 = false ∧ (ctlaByte irqEnable x).getLsbD 4 = x.enableReload ∧
      (ctlaByte irqEnable x).getLsbD 3 = x.enableCount ∧ (ctlaByte irqEnable x).extractLsb' 0 3 = x.linking := by
  refine ⟨?_, ?_, ?_, ?_, ?_, BitVec.extractLsb'_append_eq_right⟩ <;>
    (simp only [ctlaByte, BitVec.getLsbD_append, BitVec.getLsbD_ofBool]; simp)

/-- TIMnCTLB bit by bit (R98). -/
theorem ctlbByte_bits (x : Counter) :
    (ctlbByte x).extractLsb' 4 4 = 0 ∧ (ctlbByte x).getLsbD 3 = x.done ∧ (ctlbByte x).getLsbD 2 = false ∧
      (ctlbByte x).getLsbD 1 = x.borrowIn ∧ (ctlbByte x).getLsbD 0 = x.borrowOut := by
  refine ⟨?_, getLsbD_byteOfBits .., getLsbD_byteOfBits .., getLsbD_byteOfBits .., getLsbD_byteOfBits ..⟩
  ext k hk
  rw [BitVec.getElem_extractLsb', ctlbByte, getLsbD_byteOfBits]
  match k with
  | 0 | 1 | 2 | 3 => simp

/-! ### The writes -/

/-- A field write of timer `n` replaces its counter record, obliges the host to issue UPDATE
(40_update_dispatcher.md R77) and changes nothing else. -/
theorem pokeTimer_spec (s : State) (n : Fin 8) (x : Counter) :
    (s.pokeTimer n x).timer n = { s.timer n with ctr := x } ∧
      (∀ m, m ≠ n → (s.pokeTimer n x).timer m = s.timer m) ∧
      s.pokeTimer n x = { s with timers := (s.pokeTimer n x).timers, nextEvent := s.cycle } := by
  simp only [State.pokeTimer, State.setCounter, State.timer_reschedule]
  exact ⟨State.timer_setTimer .., fun m hm => State.timer_setTimer_ne _ _ hm, rfl⟩

/-- A write of one mask bit reads back at its own index and keeps the seven others (10_state.md R29). -/
theorem getLsbD_setIntMask (s : State) (n : Fin 8) (b : Bool) (m : Fin 8) :
    (s.setIntMask n b).intMask.getLsbD m = if m = n then b else s.intMask.getLsbD m := by
  simp only [State.setIntMask, BitVec.getLsbD_or, BitVec.getLsbD_and, BitVec.getLsbD_not, BitVec.getLsbD_shiftLeft]
  by_cases h : m = n
  · subst h
    simp
  · obtain hlt | hle := Nat.lt_or_ge m n
    · simp [h, hlt]
    · have hsub : (m : Nat) - n ≠ 0 := fun h0 => h (Fin.ext (by omega))
      simp [h, hle.not_gt, hsub]

/-- A control byte's fields land together: no strobe touches a field another one writes (R55, 41_timers.md R95). -/
theorem Counter.control_eq (x : Counter) (val : Byte) (cycle : Stamp) :
    x.control val cycle =
      { x with
        enableReload := val.getLsbD 4
        enableCount := val.getLsbD 3
        linking := val.extractLsb' 0 3
        done := if val.getLsbD 6 = true then false else x.done
        lastClock := if val.getLsbD 6 = true ∨ val.getLsbD 3 = true then cycle else x.lastClock } := by
  unfold Counter.control Counter.restartPhase Counter.strobeDone Counter.writeControl
  cases val.getLsbD 6 <;> cases val.getLsbD 3 <;> rfl

end Sys2Proof.Machine

open Sys2Proof Sys2Proof.Machine

/-- Settles O12: the mask bit and the counter record are written one after the other, each by its own rule. -/
theorem timerControlPoke : Obligations.TimerControlPoke := by
  intro n val s
  obtain ⟨hself, hother, hframe⟩ :=
    pokeTimer_spec (s.setIntMask n (val.getLsbD 7)) n ((s.timer n).ctr.control val s.cycle)
  refine ⟨_, rfl, getLsbD_setIntMask s n (val.getLsbD 7), ?_, hother, hframe⟩
  rw [hself, Counter.control_eq]
  rfl

/-- Settles O9: each read returns its byte and nothing else, and the bytes are read off bit by bit. -/
theorem timerPlainPeeks : Obligations.TimerPlainPeeks := fun _ d _ =>
  ⟨⟨decode_peek_of_encode rfl rfl d, rfl⟩, ⟨decode_peek_of_encode rfl rfl d, _, rfl, ctlaByte_bits ..⟩,
    ⟨decode_peek_of_encode rfl rfl d, _, rfl, ctlbByte_bits _⟩⟩

/-- Settles O10: both reads are UPDATE's pass followed by the return of the low byte. -/
theorem countPeeksRunAPass : Obligations.CountPeeksRunAPass := fun s =>
  ⟨updatePass s, rfl, fun _ d => ⟨decode_peek_of_encode rfl rfl d, rfl⟩,
    fun _ d => ⟨decode_peek_of_encode rfl rfl d, rfl⟩⟩

/-- Settles O11: the three writes are field writes of the timer's counter record. -/
theorem timerFieldPokes : Obligations.TimerFieldPokes := fun n _ s =>
  ⟨⟨_, rfl, pokeTimer_spec s n _⟩, ⟨_, rfl, pokeTimer_spec s n _⟩, ⟨_, rfl, pokeTimer_spec s n _⟩⟩

end

section
/-! The registers of an audio channel (42_audio.md R106 to R121): the bytes bit by bit, the fields a write puts into the
waveshaper, and what a write of a channel changes and keeps. -/

namespace Sys2Proof.Machine

/-! ### The bytes read -/

/-- AUDcCTL bit by bit (R116). -/
theorem audCtlByte_bits (a : AudioChannel) :
    (audCtlByte a).getLsbD 7 = a.waveshaper.getLsbD 12 ∧ (audCtlByte a).getLsbD 6 = false ∧
      (audCtlByte a).getLsbD 5 = a.integrate ∧ (audCtlByte a).getLsbD 4 = a.ctr.enableReload ∧
      (audCtlByte a).getLsbD 3 = a.ctr.enableCount ∧ (audCtlByte a).extractLsb' 0 3 = a.ctr.linking := by
  refine ⟨?_, ?_, ?_, ?_, ?_, BitVec.extractLsb'_append_eq_right⟩ <;>
    (simp only [audCtlByte, BitVec.getLsbD_append, BitVec.getLsbD_ofBool]; simp)

/-- AUDcMISC bit by bit (R120). -/
theorem audMiscByte_bits (a : AudioChannel) :
    (audMiscByte a).extractLsb' 4 4 = a.waveshaper.extractLsb' 8 4 ∧ (audMiscByte a).getLsbD 3 = false ∧
      (audMiscByte a).getLsbD 2 = false ∧ (audMiscByte a).getLsbD 1 = a.ctr.borrowIn ∧
      (audMiscByte a).getLsbD 0 = a.ctr.borrowOut := by
  refine ⟨?_, ?_, ?_, ?_, ?_⟩
  · ext k hk
    simp only [audMiscByte, BitVec.getElem_extractLsb', BitVec.getLsbD_append]
    rw [if_neg (by omega), if_neg (by omega), if_neg (by omega), BitVec.getLsbD_extractLsb',
      show 4 + k - 1 - 1 - 2 = k by omega, decide_eq_true hk, Bool.true_and]
  all_goals simp only [audMiscByte, BitVec.getLsbD_append, BitVec.getLsbD_ofBool]; simp

/-! ### The waveshaper's fields (R109, R113, R117, R121): the bits a mask keeps, and those a byte brings in

A mask that the model writes beside a shift is elaborated as a cast of a natural number. -/

section
variable (w : BitVec 21) (val : Byte) {k : Nat} (hk : k < 21)

include hk

theorem getLsbD_waveSetHigh :
    (waveSetHigh w val).getLsbD k = if 13 ≤ k then val.getLsbD (k - 13) else w.getLsbD k := by
  have hmask : ∀ k < 21, ((0x001FFF : Nat) : BitVec 21).getLsbD k = decide (k < 13) := by decide
  simp only [waveSetHigh, BitVec.getLsbD_or, BitVec.getLsbD_and, hmask k hk, BitVec.getLsbD_shiftLeft,
    BitVec.getLsbD_setWidth]
  split
  · simp [show ¬ k < 13 by omega, show k - 13 < 21 by omega, hk]
  · simp [show k < 13 by omega]

theorem getLsbD_waveSetLow :
    (waveSetLow w val).getLsbD k = if k < 8 then val.getLsbD k else w.getLsbD k := by
  have hmask : ∀ k < 21, (0x1FFF00 : BitVec 21).getLsbD k = decide (8 ≤ k) := by decide
  simp only [waveSetLow, BitVec.getLsbD_or, BitVec.getLsbD_and, hmask k hk, BitVec.getLsbD_setWidth]
  split
  · simp [show ¬ 8 ≤ k by omega, hk]
  · simp [show 8 ≤ k by omega]

theorem getLsbD_waveSetMid :
    (waveSetMid w val).getLsbD k = if 8 ≤ k ∧ k < 12 then val.getLsbD (k - 4) else w.getLsbD k := by
  have hmask : ∀ k < 21, ((0x1FF0FF : Nat) : BitVec 21).getLsbD k = !decide (8 ≤ k ∧ k < 12) := by decide
  simp only [waveSetMid, BitVec.getLsbD_or, BitVec.getLsbD_and, hmask k hk, BitVec.getLsbD_shiftLeft,
    BitVec.getLsbD_setWidth, BitVec.getLsbD_extractLsb']
  split
  · simp [show ¬ k < 8 by omega, show k - 8 < 21 by omega, show k - 8 < 4 by omega,
      show 4 + (k - 8) = k - 4 by omega, *]
  · obtain hlt | hle : k < 8 ∨ ¬ k - 8 < 4 := by omega
    all_goals simp [*]

theorem getLsbD_waveSetFeedback7 :
    (waveSetFeedback7 w val).getLsbD k = if k = 12 then val.getLsbD 7 else w.getLsbD k := by
  have hmask : ∀ k < 21, ((0x1FEFFF : Nat) : BitVec 21).getLsbD k = !decide (k = 12) := by decide
  simp only [waveSetFeedback7, BitVec.getLsbD_or, BitVec.getLsbD_and, hmask k hk, BitVec.getLsbD_shiftLeft,
    BitVec.getLsbD_setWidth, BitVec.getLsbD_extractLsb']
  split
  · simp [*]
  · obtain hlt | hle : k < 12 ∨ ¬ k - 12 < 1 := by omega
    all_goals simp [*]

end

/-! ### The writes -/

/-- A write of channel `c` replaces it, obliges the host to issue UPDATE (40_update_dispatcher.md R77) and changes
nothing else. -/
theorem pokeChannel_spec (s : State) (c : Fin 4) (a : AudioChannel) :
    (s.pokeChannel c a).channel c = a ∧ (∀ m, m ≠ c → (s.pokeChannel c a).channel m = s.channel m) ∧
      s.pokeChannel c a = { s with audio := (s.pokeChannel c a).audio, nextEvent := s.cycle } := by
  simp only [State.pokeChannel, State.channel_reschedule]
  exact ⟨State.channel_setChannel .., fun m hm => State.channel_setChannel_ne _ _ hm, rfl⟩

end Sys2Proof.Machine

open Sys2Proof Sys2Proof.Machine

/-- Settles O13: each read returns its byte and nothing else, and the two packed bytes are read off bit by bit. -/
theorem audioPlainPeeks : Obligations.AudioPlainPeeks := fun _ d _ =>
  ⟨⟨decode_peek_of_encode rfl rfl d, rfl⟩, ⟨decode_peek_of_encode rfl rfl d, rfl⟩,
    ⟨decode_peek_of_encode rfl rfl d, rfl⟩, ⟨decode_peek_of_encode rfl rfl d, rfl⟩,
    ⟨decode_peek_of_encode rfl rfl d, rfl⟩, ⟨decode_peek_of_encode rfl rfl d, _, rfl, audCtlByte_bits _⟩,
    ⟨decode_peek_of_encode rfl rfl d, _, rfl, audMiscByte_bits _⟩⟩

/-- Settles O14: the three writes are writes of the channel. -/
theorem audioFieldPokes : Obligations.AudioFieldPokes := fun c _ s =>
  ⟨⟨_, rfl, pokeChannel_spec s c _⟩, ⟨_, rfl, pokeChannel_spec s c _⟩, ⟨_, rfl, pokeChannel_spec s c _⟩⟩

/-- Settles O15: the three writes are writes of the channel, with the waveshaper's field replaced bit by bit. -/
theorem waveshaperPokes : Obligations.WaveshaperPokes := by
  intro c val s
  have hpoke := pokeChannel_spec s c
  refine ⟨⟨_, rfl, ?_⟩, ⟨_, rfl, ?_⟩, ⟨_, rfl, ?_⟩⟩
  all_goals
    obtain ⟨hself, hother, hframe⟩ := hpoke _
    refine ⟨fun k hk => ?_, by rw [hself], hother, hframe⟩
    rw [hself]
  · exact getLsbD_waveSetHigh _ val hk
  · exact getLsbD_waveSetLow _ val hk
  · exact getLsbD_waveSetMid _ val hk

/-- Settles O16: the write of the channel puts a counter controlled as a timer's is (`Counter.control_eq`) beside the
feedback switch. -/
theorem audioControlPoke : Obligations.AudioControlPoke := by
  intro c val s
  refine ⟨_, rfl, ?_⟩
  obtain ⟨hself, hother, hframe⟩ := pokeChannel_spec s c _
  refine ⟨fun k hk => ?_, ?_, hother, hframe⟩
  · rw [hself]
    exact getLsbD_waveSetFeedback7 _ val hk
  · rw [hself, Counter.control_eq]

end

section
/-! The stereo mixer (42_audio.md R104, R111, R122 to R127): what a mix emits and remembers, and the writes that mix. -/

namespace Sys2Proof.Machine

/-- What one side of a mix emits: the delta from the remembered sum, if there is one (R104). -/
def State.delta (s : State) (side : Side) (sum last : Int) : List Event :=
  if sum = last then [] else [.audioDelta side s.mixTime (sum - last)]

theorem mixLeft_eq (s : State) :
    mixLeft s = { s with
      mixer := { s.mixer with lastLeft := s.leftSum }
      events := s.events ++ s.delta .left s.leftSum s.mixer.lastLeft } := by
  unfold mixLeft State.delta
  by_cases h : s.leftSum = s.mixer.lastLeft
  · rw [if_neg (not_not.2 h), if_pos h, List.append_nil, h]
  · rw [if_pos h, if_neg h]
    rfl

theorem mixRight_eq (s : State) :
    mixRight s = { s with
      mixer := { s.mixer with lastRight := s.rightSum }
      events := s.events ++ s.delta .right s.rightSum s.mixer.lastRight } := by
  unfold mixRight State.delta
  by_cases h : s.rightSum = s.mixer.lastRight
  · rw [if_neg (not_not.2 h), if_pos h, List.append_nil, h]
  · rw [if_pos h, if_neg h]
    rfl

/-- Everything `Mix` does (R104): the sums are remembered and the deltas appended, left before right. -/
theorem mix_eq (s : State) :
    mix s = { s with
      mixer := { s.mixer with lastLeft := s.leftSum, lastRight := s.rightSum }
      events := s.events ++ s.delta .left s.leftSum s.mixer.lastLeft ++
        s.delta .right s.rightSum s.mixer.lastRight } := by
  rw [mix, mixRight_eq, mixLeft_eq]
  rfl

/-- A change of the mix's inputs, followed by `Mix`: what the mix reads of the clock and the trace stays. -/
theorem mixedFrom_mix {s u : State} (hcycle : u.cycle = s.cycle) (hepoch : u.mixer.mixEpoch = s.mixer.mixEpoch)
    (hleft : u.mixer.lastLeft = s.mixer.lastLeft) (hright : u.mixer.lastRight = s.mixer.lastRight)
    (hevents : u.events = s.events) : MixedFrom s (mix u) := by
  obtain ⟨hcurrentLeft, hcurrentRight⟩ := mix_current u
  refine ⟨hcurrentLeft, hcurrentRight, ?_⟩
  rw [← hcurrentLeft, ← hcurrentRight, mix_eq]
  simp only [State.delta, State.mixTime, hcycle, hepoch, hleft, hright, hevents]

theorem MixedFrom.reschedule {s t : State} (h : MixedFrom s t) : MixedFrom s t.reschedule :=
  ⟨h.left, h.right, h.events⟩

@[simp] theorem channel_mix (s : State) (c : Fin 4) : (mix s).channel c = s.channel c := by rw [mix_eq]; rfl

@[simp] theorem attenuation_mix (s : State) (c : Fin 4) : (mix s).attenuation c = s.attenuation c := by
  rw [mix_eq]; rfl

end Sys2Proof.Machine

open Sys2Proof Sys2Proof.Machine

/-- Settles O17: the sample is written to the channel alone, then `mix_eq` says what the mix adds. -/
theorem outputPokeMixes : Obligations.OutputPokeMixes := by
  intro c val s
  refine ⟨_, rfl, ?_, fun m hm => ?_, .reschedule (mixedFrom_mix rfl rfl rfl rfl rfl), ?_⟩
  · rw [State.channel_reschedule, channel_mix, State.channel_setChannel]
  · rw [State.channel_reschedule, channel_mix, State.channel_setChannel_ne _ _ hm]
  · rw [mix_eq]; rfl

/-- Settles O18: each write stores its byte in the mixer, then `mix_eq` says what the mix adds. -/
theorem mixerPokesMix : Obligations.MixerPokesMix := by
  intro c val s
  refine ⟨⟨_, rfl, ?_, fun m hm => ?_, mixedFrom_mix rfl rfl rfl rfl rfl, ?_⟩,
    ⟨_, rfl, mixedFrom_mix rfl rfl rfl rfl rfl, ?_⟩, ⟨_, rfl, mixedFrom_mix rfl rfl rfl rfl rfl, ?_⟩⟩
  · rw [attenuation_mix, State.attenuation_setAttenuation]
  · rw [attenuation_mix, State.attenuation_setAttenuation_ne _ _ hm]
  all_goals rw [mix_eq] <;> rfl

/-- Settles O19: the reads return the registers, and exclusive or with `MSTEREO_XOR` undoes itself. -/
theorem mixerPeeks : Obligations.MixerPeeks := by
  intro c d val s
  refine ⟨⟨decode_peek_of_encode rfl rfl d, rfl⟩, ⟨decode_peek_of_encode rfl rfl d, rfl⟩,
    ⟨decode_peek_of_encode rfl rfl d, rfl⟩, _, rfl, ?_⟩
  have hback : mstereoByte s.params (mstereoByte s.params val) = val := by
    rw [mstereoByte, mstereoByte, BitVec.xor_assoc, BitVec.xor_self, BitVec.xor_zero]
  rw [mix_eq]
  exact congrArg (fun b => Host.Outcome.next (State.returnByte _ b)) hback

end

section
/-! The audio engine (42_audio.md R100 to R104): the LFSR step bit by bit, the output rule, the underflow of a channel
and the terms of the stereo sums. -/

namespace Sys2Proof.Machine

/-! ### The LFSR (R100, R101) -/

/-- The bits of a stepped waveshaper: the register `LfsrNext` gives, below the switches as they were (R100). -/
theorem getLsbD_lfsrNext (p : Params) (w : BitVec 21) (k : Nat) :
    (lfsrNext p w).getLsbD k =
      if k < 12 then ((p.lfsrTable.lookup w).getD (lfsrShift w)).getLsbD k else w.getLsbD k := by
  rw [lfsrNext, BitVec.getLsbD_append]
  split
  · rfl
  · rw [BitVec.getLsbD_extractLsb', show 12 + (k - 12) = k by omega, Bool.and_eq_right_iff_imp]
    intro hbit
    have hlt := BitVec.lt_of_getLsbD hbit
    exact decide_eq_true (by omega)

/-- The default `LfsrNext` (R101): a shift to the left, with the inverted feedback at bit 0. -/
theorem getLsbD_lfsrShift (w : BitVec 21) {k : Nat} (hk : k < 12) :
    (lfsrShift w).getLsbD k = if k = 0 then !lfsrFeedback w else w.getLsbD (k - 1) := by
  have hmask : ∀ k < 12, (0xFFE#12).getLsbD k = !decide (k = 0) := by decide
  have hfeed : (if lfsrFeedback w then 0#12 else 1#12).getLsbD k = (decide (k = 0) && !lfsrFeedback w) := by
    cases lfsrFeedback w <;> simp [BitVec.getLsbD_one]
  simp only [lfsrShift, BitVec.getLsbD_or, BitVec.getLsbD_and, hmask k hk, hfeed, BitVec.getLsbD_shiftLeft,
    BitVec.getLsbD_extractLsb']
  split
  · simp [*]
  · simp [*, show ¬ k < 1 by omega, show k - 1 < 12 by omega]

/-- The feedback: the parity of the tapped bits whose switch is on (R100, R101). -/
theorem lfsrFeedback_eq (w : BitVec 21) :
    lfsrFeedback w =
      ((w.getLsbD 12 && w.getLsbD 7) ^^ (w.getLsbD 13 && w.getLsbD 0) ^^ (w.getLsbD 14 && w.getLsbD 1) ^^
        (w.getLsbD 15 && w.getLsbD 2) ^^ (w.getLsbD 16 && w.getLsbD 3) ^^ (w.getLsbD 17 && w.getLsbD 4) ^^
        (w.getLsbD 18 && w.getLsbD 5) ^^ (w.getLsbD 19 && w.getLsbD 10) ^^ (w.getLsbD 20 && w.getLsbD 11)) := by
  simp only [lfsrFeedback, lfsrTaps, List.zipIdx, List.foldl_cons, List.foldl_nil, Bool.false_xor]

theorem lfsrFeedback_of_off {w : BitVec 21} (h : w.extractLsb' 12 9 = 0) : lfsrFeedback w = false := by
  have hoff : ∀ k, 12 ≤ k → k < 21 → w.getLsbD k = false := fun k hlo hhi => by
    have hbit := congrArg (BitVec.getLsbD · (k - 12)) h
    rw [BitVec.getLsbD_extractLsb', decide_eq_true (by omega), Bool.true_and, Nat.add_sub_cancel' hlo] at hbit
    exact hbit.trans BitVec.getLsbD_zero
  simp (disch := decide) only [lfsrFeedback_eq, hoff, Bool.false_and, Bool.xor_false]

section
variable {p : Params} (hp : p.lfsrTable = Params.default.lfsrTable)

include hp

/-- Without a table entry an LFSR step is the default one. -/
theorem getLsbD_lfsrNext_default (w : BitVec 21) {k : Nat} (hk : k < 12) :
    (lfsrNext p w).getLsbD k = if k = 0 then !lfsrFeedback w else w.getLsbD (k - 1) := by
  rw [getLsbD_lfsrNext, if_pos hk, hp]
  exact getLsbD_lfsrShift w hk

/-- With all switches off each step brings in one more 1 (R101). -/
theorem lfsr_fills {w : BitVec 21} (hoff : w.extractLsb' 12 9 = 0) (n : Nat) :
    ((List.range n).foldl (fun v _ => lfsrNext p v) w).extractLsb' 12 9 = 0 ∧
      ∀ k < 12, k < n → ((List.range n).foldl (fun v _ => lfsrNext p v) w).getLsbD k = true := by
  induction n with
  | zero => exact ⟨hoff, fun k _ hk => absurd hk (Nat.not_lt_zero k)⟩
  | succ n ih =>
    rw [List.range_succ, List.foldl_append, List.foldl_cons, List.foldl_nil]
    obtain ⟨hswitches, hones⟩ := ih
    refine ⟨(lfsrNext_switches p _).trans hswitches, fun k hk hkn => ?_⟩
    rw [getLsbD_lfsrNext_default hp _ hk, lfsrFeedback_of_off hswitches]
    split
    · rfl
    · exact hones (k - 1) (by omega) (by omega)

end

/-! ### The output rule (R103) -/

theorem clamp_eq_max_min {v lo hi : Int} (h : lo ≤ hi) : clamp v lo hi = max lo (min hi v) := by
  unfold clamp
  split
  · omega
  · split <;> omega

/-- A clamped value fits a signed byte. -/
theorem toInt_u8_clamp (v : Int) : (u8 (clamp v (-128) 127)).toInt = max (-128) (min 127 v) := by
  rw [clamp_eq_max_min (by decide)]
  exact BitVec.toInt_ofInt_eq_self (by decide) (by omega) (by omega)

/-- The output rule writes the output alone. -/
theorem updateOutput_changes (a : AudioChannel) : a.updateOutput = { a with output := a.updateOutput.output } := by
  unfold AudioChannel.updateOutput
  dsimp only
  split <;> rfl

theorem output_of_integrate {a : AudioChannel} (h : a.integrate = true) :
    a.updateOutput.output = u8 (clamp (if a.waveshaper.getLsbD 0 then s8 a.output + s8 a.volume
      else s8 a.output - s8 a.volume) (-128) 127) := by
  simp only [AudioChannel.updateOutput, h, if_true]

theorem output_of_not_integrate {a : AudioChannel} (h : a.integrate = false) :
    a.updateOutput.output = if a.waveshaper.getLsbD 0 then a.volume else -a.volume := by
  simp only [AudioChannel.updateOutput, h, if_false, Bool.false_eq_true]

/-- The negation of a byte: -128 is its own. -/
theorem toInt_neg_byte (v : Byte) : (-v).toInt = if v.toInt = -128 then -128 else -v.toInt := by
  have hmin : v = BitVec.intMin 8 ↔ v.toInt = -128 := (BitVec.toInt_inj (y := BitVec.intMin 8)).symm
  rw [BitVec.toInt_neg_eq_ite]
  simp only [hmin]
  split
  · assumption
  · rfl

/-! ### The underflow of a channel (R102) -/

/-- The LFSR step of an underflow writes the waveshaper alone. -/
theorem stepLfsr_eq (a : AudioChannel) (p : Params) :
    a.stepLfsr p = { a with
      waveshaper := if a.ctr.backup = 0 ∧ a.ctr.linking = 0 then a.waveshaper else lfsrNext p a.waveshaper } := by
  unfold AudioChannel.stepLfsr
  by_cases h : a.ctr.backup = 0 ∧ a.ctr.linking = 0
  · rw [if_neg (by tauto), if_pos h]
  · rw [if_pos (by tauto), if_neg h]

theorem waveshaper_updateOutput (a : AudioChannel) : a.updateOutput.waveshaper = a.waveshaper := by
  rw [updateOutput_changes]

/-! ### The stereo sums (R104) -/

/-- An output through an attenuation `n` of at most the divisor stays a signed byte. -/
theorem attenuated_range (o : Byte) {n d : Int} (hn : 0 ≤ n) (hnd : n ≤ d) (hd : 0 < d) :
    -128 ≤ (s8 o * n).tdiv d ∧ (s8 o * n).tdiv d ≤ 127 := by
  have hlo : (-128 : Int) ≤ s8 o := BitVec.le_toInt o
  have hhi : s8 o ≤ 127 := BitVec.toInt_le
  constructor
  · rw [← Int.mul_tdiv_cancel (-128) hd.ne']
    exact Int.tdiv_le_tdiv hd (by nlinarith)
  · rw [← Int.mul_tdiv_cancel 127 hd.ne']
    exact Int.tdiv_le_tdiv hd (by nlinarith)

/-- A channel adds at most its output, a signed byte, to the left sum. -/
theorem leftTerm_range (s : State) (c : Fin 4) : -128 ≤ s.leftTerm c ∧ s.leftTerm c ≤ 127 := by
  have hatten : attenLeft (s.attenuation c) ≤ 240 := Int.ofNat_le.2 Nat.and_le_right
  unfold State.leftTerm
  dsimp only
  split
  · split
    · exact attenuated_range _ (Int.natCast_nonneg _) (by omega) (by decide)
    · exact ⟨BitVec.le_toInt _, BitVec.toInt_le⟩
  · decide

/-- So it does to the right sum. -/
theorem rightTerm_range (s : State) (c : Fin 4) : -128 ≤ s.rightTerm c ∧ s.rightTerm c ≤ 127 := by
  have hatten : attenRight (s.attenuation c) ≤ 15 := Int.ofNat_le.2 Nat.and_le_right
  unfold State.rightTerm
  dsimp only
  split
  · split
    · exact attenuated_range _ (Int.natCast_nonneg _) (by omega) (by decide)
    · exact ⟨BitVec.le_toInt _, BitVec.toInt_le⟩
  · decide

/-- A sum over the four channels, in order. -/
theorem sum_channels (f : Fin 4 → Int) : ((List.finRange 4).map f).sum = f 0 + f 1 + f 2 + f 3 := by
  simp [List.finRange_succ, add_assoc]

/-- Four signed bytes sum to -512 to 508 (10_state.md R24). -/
theorem sum_range {f : Fin 4 → Int} (h : ∀ c, -128 ≤ f c ∧ f c ≤ 127) :
    -512 ≤ f 0 + f 1 + f 2 + f 3 ∧ f 0 + f 1 + f 2 + f 3 ≤ 508 := by
  have h0 := h 0
  have h1 := h 1
  have h2 := h 2
  have h3 := h 3
  omega

end Sys2Proof.Machine

open Sys2Proof Sys2Proof.Machine

/-- Settles O38: the step bit by bit, and the fill by induction on the number of steps (`lfsr_fills`). -/
theorem lfsrStep : Obligations.LfsrStep := by
  intro p w
  refine ⟨fun k hk => ?_, fun hp => ⟨fun k hlo hhi => ?_, ?_, fun hoff => ?_⟩⟩
  · rw [getLsbD_lfsrNext, if_neg (by omega)]
  · rw [getLsbD_lfsrNext_default hp w (by omega), if_neg (by omega)]
  · rw [getLsbD_lfsrNext_default hp w (by decide), if_pos rfl, lfsrFeedback_eq]
  · obtain ⟨-, hones⟩ := lfsr_fills hp hoff 12
    have hfull : ∀ k < 12, (0xFFF#12).getLsbD k = true := by decide
    refine BitVec.eq_of_getLsbD_eq fun k hk => ?_
    rw [BitVec.getLsbD_extractLsb', Nat.zero_add, hones k hk hk, hfull k hk, decide_eq_true hk]
    rfl

/-- Settles O39: the output mode by mode; a clamped sum fits a signed byte. -/
theorem channelOutput : Obligations.ChannelOutput := by
  refine fun a => ⟨updateOutput_changes a, fun h => ?_, fun h hbit => ?_, fun h hbit => ?_⟩
  · rw [output_of_integrate h, toInt_u8_clamp]
  · rw [output_of_not_integrate h, if_pos hbit]
  · rw [output_of_not_integrate h, hbit, if_neg Bool.false_ne_true, toInt_neg_byte]

/-- Settles O40: the channel is stepped and its output updated in place, then `mix_eq` says what the mix adds. -/
theorem channelUnderflow : Obligations.ChannelUnderflow := by
  intro c s
  have hself : (audioUnderflow c s).channel c = ((s.channel c).stepLfsr s.params).updateOutput := by
    rw [audioUnderflow, channel_mix, State.channel_setChannel]
  refine ⟨_, rfl, ?_, ?_, fun m hm => ?_, mixedFrom_mix rfl rfl rfl rfl rfl, ?_⟩
  · rw [hself, waveshaper_updateOutput, stepLfsr_eq]
  · rw [hself, waveshaper_updateOutput, stepLfsr_eq]
  · rw [audioUnderflow, channel_mix, State.channel_setChannel_ne _ _ hm]
  · rw [audioUnderflow, mix_eq]; rfl

/-- Settles O41: the sums are the model's terms in order, each a signed byte. -/
theorem mixSums : Obligations.MixSums := by
  intro s
  obtain ⟨hleftLow, hleftHigh⟩ := sum_range (leftTerm_range s)
  obtain ⟨hrightLow, hrightHigh⟩ := sum_range (rightTerm_range s)
  exact ⟨(sum_channels s.leftTerm).symm, (sum_channels s.rightTerm).symm, hleftLow, hleftHigh, hrightLow, hrightHigh⟩

end

section
/-! The display registers (43_display.md R135 to R141): what a write of a palette entry changes and keeps, and what is
read back. -/

namespace Sys2Proof.Machine

/-- Written green is read back masked to four bits (R138, R139). -/
theorem greenByte_writeGreen (p : PalEntry) (val : Byte) : greenByte (p.writeGreen val) = val &&& 0x0F := by
  refine BitVec.eq_of_getLsbD_eq fun k hk => ?_
  have hmask : ∀ k < 8, (0x0F : Byte).getLsbD k = decide (k < 4) := by decide
  rw [BitVec.getLsbD_and, hmask k hk]
  simp [greenByte, PalEntry.writeGreen, hk, Bool.and_comm]

/-- Written blue and red are read back as the byte written (R140, R141). -/
theorem blueredByte_writeBluered (p : PalEntry) (val : Byte) : blueredByte (p.writeBluered val) = val :=
  BitVec.extractLsb'_append_extractLsb'_eq_extractLsb' rfl |>.trans (by simp)

/-- A write of palette entry `i` replaces it and changes nothing else. -/
theorem setPalEntry_spec (s : State) (i : Fin 16) (p : PalEntry) :
    (s.setPalEntry i p).palEntry i = p ∧
      (∀ k, k ≠ i → (s.setPalEntry i p).palEntry k = s.palEntry k) ∧
      s.setPalEntry i p = { s with display := { s.display with pal := (s.setPalEntry i p).display.pal } } :=
  ⟨State.palEntry_setPalEntry .., fun _ hk => State.palEntry_setPalEntry_ne _ _ hk, rfl⟩

end Sys2Proof.Machine

open Sys2Proof Sys2Proof.Machine

/-- Settles O20: each write is the record update stated. -/
theorem displayControlPokes : Obligations.DisplayControlPokes := fun _ _ => ⟨rfl, rfl, rfl⟩

/-- Settles O21: the writes replace a palette entry, and the bytes read back are those of the entry written. -/
theorem paletteAccess : Obligations.PaletteAccess := by
  intro i d val s
  obtain ⟨hgreen, hgreenOther, hgreenFrame⟩ := setPalEntry_spec s i ((s.palEntry i).writeGreen val)
  obtain ⟨hblue, hblueOther, hblueFrame⟩ := setPalEntry_spec s i ((s.palEntry i).writeBluered val)
  refine ⟨⟨decode_peek_of_encode rfl rfl d, rfl⟩,
    ⟨encodeThenDecode (.pokeGreen i val) rfl, _, rfl, hgreen, hgreenOther, hgreenFrame, ?_⟩,
    ⟨decode_peek_of_encode rfl rfl d, rfl⟩,
    ⟨encodeThenDecode (.pokeBluered i val) rfl, _, rfl, hblue, hblueOther, hblueFrame, ?_⟩⟩
  · rw [exec, execPeekGreen, hgreen, greenByte_writeGreen]
    rfl
  · rw [exec, execPeekBluered, hblue, blueredByte_writeBluered]
    rfl

end

section
/-! One copied scanline (43_display.md R132; 20_memory.md R38, R39): where a column's byte is fetched and which nibble
of it is drawn, then what the copying loop leaves on the surface. -/

namespace Sys2Proof.Machine

/-! ### The pixel of a column -/

/-- The address `n` bytes on from `adr` in the direction of the fetch (20_memory.md R39). -/
def fetchAddr (flip : Bool) (adr : BitVec 16) (n : Nat) : BitVec 16 :=
  if flip = true then adr - BitVec.ofNat 16 n else adr + BitVec.ofNat 16 n

@[simp] theorem fetchAddr_zero (flip : Bool) (adr : BitVec 16) : fetchAddr flip adr 0 = adr := by
  cases flip <;> simp [fetchAddr]

@[simp] theorem fetchAddr_fetchAddr (flip : Bool) (adr : BitVec 16) (m n : Nat) :
    fetchAddr flip (fetchAddr flip adr m) n = fetchAddr flip adr (m + n) := by
  cases flip
  · simp [fetchAddr, BitVec.ofNat_add, BitVec.add_assoc]
  · simp [fetchAddr, BitVec.ofNat_add, sub_sub]

/-- The nibble of a byte that is drawn in column `col` (20_memory.md R38, R39). -/
def columnNibble (flip : Bool) (b : Byte) (col : Nat) : BitVec 4 :=
  if (col % 2 = 0 ∧ flip = false) ∨ (col % 2 = 1 ∧ flip = true) then b.extractLsb' 4 4 else b.extractLsb' 0 4

theorem pixelPair_eq (flip : Bool) (b : Byte) : pixelPair flip b = (columnNibble flip b 0, columnNibble flip b 1) := by
  cases flip <;> rfl

/-- The pixel in column `col` of a line whose first byte stands at `adr`, through palette and colour table (R132). -/
def State.columnPixel (s : State) (adr : BitVec 16) (col : Nat) : Pixel :=
  s.pixelOf (columnNibble s.display.flip (Memory.read s.mem (fetchAddr s.display.flip adr (col / 2))) col)

/-- Moving the start of a line by whole bytes moves its columns by twice as many. -/
theorem columnPixel_fetchAddr (s : State) (adr : BitVec 16) (n col : Nat) :
    s.columnPixel (fetchAddr s.display.flip adr n) col = s.columnPixel adr (2 * n + col) := by
  have hbyte : (2 * n + col) / 2 = n + col / 2 := by omega
  have hside : (2 * n + col) % 2 = col % 2 := by omega
  simp only [State.columnPixel, columnNibble, fetchAddr_fetchAddr, hbyte, hside]

/-! ### The copying loop -/

/-- One turn of the loop: the address moves by one byte, two columns of the row are drawn (R132). -/
theorem copyByte_eq (j : Nat) (s : State) :
    copyByte j s =
      { s with
        display := { s.display with dmaAddr := fetchAddr s.display.flip s.display.dmaAddr 1 }
        surface :=
          Surface.write s.params
            (Surface.write s.params s.surface s.display.outLine (2 * j) (s.columnPixel s.display.dmaAddr 0))
            s.display.outLine (2 * j + 1) (s.columnPixel s.display.dmaAddr 1) } := by
  simp only [copyByte, pixelPair_eq, State.columnPixel, Nat.zero_div, Nat.reduceDiv, fetchAddr_zero]
  rfl

/-- A turn draws the columns of its own byte and no other (R132). -/
theorem pixelAt_copyByte {j col : Nat} {s : State} (row : Nat) (hj : j < s.params.lineBytes)
    (hcol : col < s.params.linePixels) :
    (copyByte j s).pixelAt row col =
      if row = s.display.outLine ∧ col / 2 = j then some (s.columnPixel s.display.dmaAddr (col - 2 * j))
      else s.pixelAt row col := by
  have hleft : 2 * j < s.params.linePixels := by rw [Params.linePixels]; omega
  have hright : 2 * j + 1 < s.params.linePixels := by rw [Params.linePixels]; omega
  rw [copyByte_eq, State.pixelAt]
  dsimp only
  split
  · next h =>
    obtain ⟨rfl, hdiv⟩ := h
    obtain hodd | heven : col = 2 * j + 1 ∨ col = 2 * j := by omega
    · rw [hodd, Surface.read_write_same, Nat.add_sub_cancel_left]
    · rw [heven, Surface.read_write_other _ _ hright hleft (.inr (by omega)), Surface.read_write_same, Nat.sub_self]
  · next h =>
    rw [Surface.read_write_other _ _ hright hcol (by omega), Surface.read_write_other _ _ hleft hcol (by omega)]
    rfl

/-- The loop writes the address and the surface alone (R132). -/
theorem copyBytes_eq (n j : Nat) (s : State) :
    copyBytes n j s =
      { s with
        display := { s.display with dmaAddr := fetchAddr s.display.flip s.display.dmaAddr n }
        surface := (copyBytes n j s).surface } := by
  induction n generalizing j s with
  | zero => rw [fetchAddr_zero]; rfl
  | succ n ih =>
    rw [copyBytes, ih, copyByte_eq]
    dsimp only
    rw [fetchAddr_fetchAddr, Nat.add_comm 1 n]

/-- `n` turns from turn `j` on draw the columns of their `n` bytes and no other (R132). -/
theorem pixelAt_copyBytes (n j : Nat) {col : Nat} {s : State} (row : Nat) (hn : j + n ≤ s.params.lineBytes)
    (hcol : col < s.params.linePixels) :
    (copyBytes n j s).pixelAt row col =
      if row = s.display.outLine ∧ j ≤ col / 2 ∧ col / 2 < j + n then
        some (s.columnPixel s.display.dmaAddr (col - 2 * j))
      else s.pixelAt row col := by
  induction n generalizing j s with
  | zero => rw [if_neg (by omega)]; rfl
  | succ n ih =>
    have hrest : (copyBytes n (j + 1) (copyByte j s)).pixelAt row col =
        if row = s.display.outLine ∧ j + 1 ≤ col / 2 ∧ col / 2 < j + 1 + n then
          some (s.columnPixel s.display.dmaAddr (2 * 1 + (col - 2 * (j + 1))))
        else (copyByte j s).pixelAt row col := by
      rw [ih (j + 1) (s := copyByte j s) (show j + 1 + n ≤ s.params.lineBytes by omega) hcol,
        ← columnPixel_fetchAddr]
      rfl
    rw [copyBytes, hrest, pixelAt_copyByte row (by omega) hcol]
    by_cases hown : col / 2 = j
    · rw [if_neg (by omega)]
      exact if_congr (by omega) rfl rfl
    · rw [if_neg (c := _ ∧ col / 2 = j) (by omega)]
      refine if_ctx_congr (by omega) (fun hlater => ?_) fun _ => rfl
      rw [show 2 * 1 + (col - 2 * (j + 1)) = col - 2 * j by omega]

/-- A copied line draws the whole row and no other (R132). -/
theorem pixelAt_copyLine {col : Nat} {s : State} (row : Nat) (hcol : col < s.params.linePixels) :
    (copyLine s).pixelAt row col =
      if row = s.display.outLine then some (s.columnPixel s.display.dmaAddr col) else s.pixelAt row col := by
  have hbyte : col / 2 < 0 + s.params.lineBytes := by rw [Params.linePixels] at hcol; omega
  rw [copyLine, pixelAt_copyBytes _ 0 row (Nat.le_of_eq (Nat.zero_add _)) hcol]
  exact if_congr (and_iff_left ⟨Nat.zero_le _, hbyte⟩) rfl rfl

end Sys2Proof.Machine

open Sys2Proof Sys2Proof.Machine

/-- Settles O43: `pixelAt_copyLine` gives the pixels of every row, `copyBytes_eq` the address and the frame. -/
theorem copiedScanline : Obligations.CopiedScanline := by
  rintro s t rfl
  refine ⟨fun col hcol => ⟨_, _, rfl, rfl, ?_⟩, fun row col hcol hrow => ?_, ?_, ?_⟩
  · rw [pixelAt_copyLine _ hcol, if_pos rfl]
    rfl
  · rw [pixelAt_copyLine _ hcol, if_neg hrow]
  · rw [copyLine, copyBytes_eq]
    rfl
  · rw [copyLine, copyBytes_eq]

end

section
/-! The line strobe and the frame strobe (43_display.md R131, R133; 20_memory.md R39): the address and the number of
lines the line part of a strobe finds, and what the whole strobe writes. -/

namespace Sys2Proof.Machine

/-- Raising an interrupt under its mask writes the interrupt status alone (60_exceptions.md R168). -/
theorem raiseIfEnabled_eq (s : State) (k : Nat) :
    s.raiseIfEnabled k =
      { s with intStatus := if s.intMask.getLsbD k = true then s.intStatus ||| (1#8 <<< k) else s.intStatus } := by
  unfold State.raiseIfEnabled
  split <;> rfl

/-- REST is latched exactly at the offsets of `REST_OFFSETS` below Timer 2's backup (R131). -/
theorem restWindow_iff (p : Params) (lineCount backup : Byte) :
    restWindow p lineCount backup = true ↔
      ∃ k ∈ p.restOffsets, (lineCount.toNat : Int) = (backup.toNat : Int) - (k : Int) := by
  simp only [restWindow, List.any_eq_true, decide_eq_true_eq]
  exact exists_congr fun k => and_congr_right fun _ => by omega

/-! ### What the line part of a strobe finds -/

/-- The strobe arms the burst (R131). -/
abbrev State.ArmsBurst (s : State) : Prop :=
  s.display.lineCount.toNat + s.params.burstOffset = (s.timer 2).ctr.backup.toNat

/-- Where the line part fetches from: the start of the burst on the arming strobe (R131, 20_memory.md R39). -/
def State.lineAddr (s : State) : BitVec 16 :=
  if s.ArmsBurst then burstAddr s.params s.display.dispAddr s.display.flip else s.display.dmaAddr

/-- How many lines of the burst the line part finds left (R131). -/
def State.linesLeft (s : State) : Nat := if s.ArmsBurst then Config.lines else s.display.dmaLines

theorem armBurst_eq (s : State) :
    armBurst s = { s with display := { s.display with dmaAddr := s.lineAddr, dmaLines := s.linesLeft } } := by
  unfold armBurst State.lineAddr State.linesLeft
  split <;> rfl

/-- The line count goes down to 0 and stays there (R131). -/
theorem countLine_eq (s : State) :
    countLine s =
      { s with display := { s.display with lineCount := BitVec.ofNat 8 (s.display.lineCount.toNat - 1) } } := by
  unfold countLine
  split
  · next hpos =>
    rw [show s.display.lineCount - 1 = BitVec.ofNat 8 (s.display.lineCount.toNat - 1) by bv_omega]
  · next hzero =>
    rw [show BitVec.ofNat 8 (s.display.lineCount.toNat - 1) = s.display.lineCount by bv_omega]

/-- The state as the line part finds it: interrupt, REST, burst and line count are up to date (R131 (a) to (d)). -/
def State.atLine (s : State) : State :=
  { s with
    intStatus := if s.intMask.getLsbD 0 = true then s.intStatus ||| 1#8 else s.intStatus
    display := { s.display with
      rest := restWindow s.params s.display.lineCount (s.timer 2).ctr.backup
      dmaAddr := s.lineAddr, dmaLines := s.linesLeft
      lineCount := BitVec.ofNat 8 (s.display.lineCount.toNat - 1) } }

/-- A strobe that passes the gate brings the state up to date, then draws the line (R131). -/
theorem renderLine_of_on {s : State} (hbound : s.display.surfaceBound = true) (hdma : s.display.dmaEnable = true) :
    renderLine s = drawLine s.atLine := by
  rw [renderLine, hbound, hdma, raiseIfEnabled_eq, latchRest, armBurst_eq, countLine_eq]
  rfl

/-! ### The line part -/

theorem drawLine_of_noLines {s : State} (h : s.display.dmaLines = 0) : drawLine s = s := by
  rw [drawLine, h, if_neg (Nat.lt_irrefl 0)]

theorem drawLine_of_overflow {s : State} (h : 0 < s.display.dmaLines) (hrow : Config.lines ≤ s.display.outLine) :
    drawLine s =
      { s with
        display := { s.display with dmaLines := s.display.dmaLines - 1 }
        events := s.events ++ [.diag .lineOverflow] } := by
  rw [drawLine, if_pos h]
  exact if_pos hrow

/-- The surface a line leaves does not depend on the interrupt, REST, the lines left and the line count. -/
theorem copyBytes_surface_with (n j : Nat) (s : State) (i : Byte) (rest : Bool) (lines : Nat) (count : Byte) :
    (copyBytes n j { s with
      intStatus := i
      display := { s.display with rest := rest, dmaLines := lines, lineCount := count } }).surface =
      (copyBytes n j s).surface := by
  induction n generalizing j s with
  | zero => rfl
  | succ n ih => exact ih (j + 1) (copyByte j s)

/-- So a strobe copies the line it would copy from the address alone. -/
theorem copyLine_atLine_surface (s : State) :
    (copyLine s.atLine).surface =
      (copyLine { s with display := { s.display with dmaAddr := s.lineAddr } }).surface :=
  copyBytes_surface_with _ 0 { s with display := { s.display with dmaAddr := s.lineAddr } } ..

/-- Drawn or skipped, a line moves the address and the row on (R131). -/
theorem drawLine_of_row {s : State} (h : 0 < s.display.dmaLines) (hrow : s.display.outLine < Config.lines) :
    drawLine s =
      { s with
        display := { s.display with
          dmaAddr := fetchAddr s.display.flip s.display.dmaAddr s.params.lineBytes
          dmaLines := s.display.dmaLines - 1, outLine := s.display.outLine + 1 }
        surface := if s.display.skipFrame = true then s.surface else (copyLine s).surface } := by
  rw [drawLine, if_pos h]
  dsimp only
  rw [if_neg (Nat.not_le.mpr hrow)]
  split
  · rfl
  · rw [copyLine, copyBytes_eq]
    dsimp only
    rw [copyBytes_surface_with s.params.lineBytes 0 s s.intStatus s.display.rest _ s.display.lineCount]
    rfl

/-- In all cases the line part writes the address, the lines left, the row, the surface and the trace alone. -/
theorem drawLine_frame (s : State) :
    drawLine s =
      { s with
        display := { s.display with
          dmaAddr := (drawLine s).display.dmaAddr, dmaLines := s.display.dmaLines - 1
          outLine := (drawLine s).display.outLine }
        surface := (drawLine s).surface, events := (drawLine s).events } := by
  obtain hnone | hsome := Nat.eq_zero_or_pos s.display.dmaLines
  · rw [drawLine_of_noLines hnone, show s.display.dmaLines - 1 = s.display.dmaLines by omega]
  · obtain hrow | hrow := Nat.lt_or_ge s.display.outLine Config.lines
    · rw [drawLine_of_row hsome hrow]
    · rw [drawLine_of_overflow hsome hrow]

theorem lineCount_atLine (s : State) : s.atLine.display.lineCount.toNat = s.display.lineCount.toNat - 1 := by
  rw [State.atLine, BitVec.toNat_ofNat]
  omega

end Sys2Proof.Machine

open Sys2Proof Sys2Proof.Machine

/-- Settles O42: the strobe brings the state up to date (`renderLine_of_on`), then the line part is one of the three
cases of `drawLine`. -/
theorem lineStrobe : Obligations.LineStrobe := by
  rintro s t rfl
  refine ⟨fun hoff => ?_, fun hbound hdma => ⟨s.lineAddr, s.linesLeft, fun harm => ?_, fun harm => ?_, ?_⟩⟩
  · rw [renderLine, if_neg (by rcases hoff with h | h <;> simp [h])]
  · have harms : s.ArmsBurst := by rw [State.ArmsBurst]; omega
    exact ⟨if_pos harms, if_pos harms⟩
  · have harms : ¬ s.ArmsBurst := by rw [State.ArmsBurst]; omega
    exact ⟨if_neg harms, if_neg harms⟩
  · rw [renderLine_of_on hbound hdma]
    refine ⟨?intStatus, ?rest, ?lineCount, ?dmaLines, fun hnone => ?noLines, fun hsome hrow => ?overflow,
      fun hsome hrow => ?row, ?frame⟩
    case intStatus => rw [drawLine_frame]; rfl
    case rest => rw [drawLine_frame]; exact restWindow_iff ..
    case lineCount => rw [drawLine_frame]; exact lineCount_atLine s
    case dmaLines => rw [drawLine_frame]; rfl
    case noLines =>
      rw [drawLine_of_noLines (s := s.atLine) hnone]
      exact ⟨rfl, rfl, rfl, rfl⟩
    case overflow =>
      rw [drawLine_of_overflow (s := s.atLine) hsome hrow]
      exact ⟨rfl, rfl, rfl, rfl⟩
    case row =>
      rw [drawLine_of_row (s := s.atLine) hsome hrow, copyLine_atLine_surface]
      exact ⟨rfl, rfl, rfl, rfl⟩
    case frame => rw [drawLine_frame]; rfl

/-- Settles O44: of the frame strobe's writes only the interrupt status depends on a condition. -/
theorem frameStrobe : Obligations.FrameStrobe := fun s => by
  rw [endOfFrame, raiseIfEnabled_eq]
  rfl

end

section
/-! The frame law (43_display.md R134): the burst row by row, as an invariant of the line strobe. -/

namespace Sys2Proof.Machine

/-- One turn more comes after the others. -/
theorem repeated_succ_apply (f : State → State) (k : Nat) (s : State) :
    repeated f (k + 1) s = f (repeated f k s) := by
  induction k generalizing s with
  | zero => rfl
  | succ k ih => exact ih (f s)

/-- The bytes of a burst, from its first one on, in either direction (20_memory.md R39). -/
theorem fetchAddr_burstAddr (p : Params) (dispAddr : BitVec 16) (flip : Bool) (n : Nat) :
    fetchAddr flip (burstAddr p dispAddr flip) n =
      if flip = true then (dispAddr &&& p.dispadrMask) + 3#16 - BitVec.ofNat 16 n
      else (dispAddr &&& p.dispadrMask) + BitVec.ofNat 16 n := by
  cases flip <;> rfl

/-- `t` stands in the burst that a strobe arms in `s`, before row `r`: it will fetch where row `r` begins, the rows
above are drawn, and no strobe from row 1 on arms again. -/
structure BurstAt (s : State) (r : Nat) (t : State) : Prop where
  /-- what the strobes so far have written -/
  frame : t = { s with
    intStatus := t.intStatus
    display := { s.display with
      rest := t.display.rest, dmaAddr := t.display.dmaAddr, dmaLines := t.display.dmaLines
      lineCount := t.display.lineCount, outLine := r }
    surface := t.surface }
  addr : t.lineAddr = fetchAddr s.display.flip s.lineAddr (s.params.lineBytes * r)
  left : t.linesLeft = Config.lines - r
  counted : t.display.lineCount.toNat - 1 + s.params.burstOffset < (s.timer 2).ctr.backup.toNat
  drawn : ∀ row col, row < r → col < s.params.linePixels →
    t.pixelAt row col = some (s.columnPixel s.lineAddr (2 * (s.params.lineBytes * row) + col))

theorem BurstAt.start {s : State} (hrow : s.display.outLine = 0) (hpos : 0 < s.display.lineCount.toNat)
    (harms : s.ArmsBurst) : BurstAt s 0 s where
  frame := by rw [← hrow]
  addr := by rw [Nat.mul_zero, fetchAddr_zero]
  left := if_pos harms
  counted := by rw [State.ArmsBurst] at harms; omega
  drawn _ _ h := absurd h (Nat.not_lt_zero _)

section
variable {s t : State} {r : Nat}

theorem BurstAt.params (h : BurstAt s r t) : t.params = s.params := by rw [h.frame]

theorem BurstAt.flip (h : BurstAt s r t) : t.display.flip = s.display.flip := by rw [h.frame]

theorem BurstAt.outLine (h : BurstAt s r t) : t.display.outLine = r := by rw [h.frame]

theorem BurstAt.columnPixel (h : BurstAt s r t) (adr : BitVec 16) (col : Nat) :
    t.columnPixel adr col = s.columnPixel adr col := by
  rw [h.frame]
  rfl

/-- After the last row the burst is over, and not armed again. -/
theorem BurstAt.dmaLines (h : BurstAt s Config.lines t) : t.display.dmaLines = 0 := by
  have hleft := h.left
  rw [State.linesLeft, Nat.sub_self] at hleft
  split at hleft
  · exact absurd hleft (by decide)
  · exact hleft

variable (hbound : s.display.surfaceBound = true) (hdma : s.display.dmaEnable = true)
include hbound hdma

/-- Every strobe of the burst passes the gate. -/
theorem BurstAt.renderLine_eq (h : BurstAt s r t) : renderLine t = drawLine t.atLine :=
  renderLine_of_on (by rw [h.frame]; exact hbound) (by rw [h.frame]; exact hdma)

/-- The strobe leaves a line count at which none arms, so the next one goes on where this one ends. -/
theorem BurstAt.renderLine_goesOn (h : BurstAt s r t) :
    (renderLine t).lineAddr = (renderLine t).display.dmaAddr ∧ (renderLine t).linesLeft = t.linesLeft - 1 ∧
      (renderLine t).display.lineCount.toNat + s.params.burstOffset < (s.timer 2).ctr.backup.toNat := by
  have hcount : (renderLine t).display.lineCount.toNat = t.display.lineCount.toNat - 1 := by
    rw [h.renderLine_eq hbound hdma, drawLine_frame]
    exact lineCount_atLine t
  have hlines : (renderLine t).display.dmaLines = t.linesLeft - 1 := by
    rw [h.renderLine_eq hbound hdma, drawLine_frame]
    rfl
  have htimer : (renderLine t).timer 2 = s.timer 2 := by
    obtain ⟨i, d, f, e, heq⟩ := renderLine_only t
    rw [heq, h.frame]
    rfl
  have hbelow := h.counted
  have harms : ¬ (renderLine t).ArmsBurst := by
    rw [State.ArmsBurst, hcount, (renderLine_only t).params, h.params, htimer]
    omega
  exact ⟨if_neg harms, (if_neg harms).trans hlines, hcount ▸ h.counted⟩

/-- A strobe of the burst copies its line and moves on to the next row. -/
theorem BurstAt.renderLine_copies (hskip : s.display.skipFrame = false) (h : BurstAt s r t) (hr : r < Config.lines) :
    renderLine t = { t.atLine with
      display := { t.atLine.display with
        dmaAddr := fetchAddr s.display.flip s.lineAddr (s.params.lineBytes * (r + 1))
        dmaLines := t.linesLeft - 1, outLine := r + 1 }
      surface := (copyLine t.atLine).surface } := by
  have hline : 0 < t.linesLeft := by rw [h.left]; omega
  have hrow : t.display.outLine < Config.lines := by rw [h.outLine]; exact hr
  have hdraws : ¬ t.atLine.display.skipFrame = true := by rw [h.frame]; exact Bool.eq_false_iff.mp hskip
  rw [h.renderLine_eq hbound hdma, drawLine_of_row (s := t.atLine) hline hrow, if_neg hdraws, Nat.mul_succ,
    ← fetchAddr_fetchAddr, ← h.addr, ← h.params, ← h.flip, ← h.outLine]
  rfl

/-- So it draws that row and no other. -/
theorem BurstAt.pixelAt_renderLine (hskip : s.display.skipFrame = false) (h : BurstAt s r t) (hr : r < Config.lines)
    (row : Nat) {col : Nat} (hcol : col < s.params.linePixels) :
    (renderLine t).pixelAt row col =
      if row = r then some (s.columnPixel s.lineAddr (2 * (s.params.lineBytes * r) + col)) else t.pixelAt row col := by
  have hcopied : (renderLine t).pixelAt row col = (copyLine t.atLine).pixelAt row col := by
    rw [h.renderLine_copies hbound hdma hskip hr, copyLine, copyBytes_eq]
    rfl
  rw [hcopied, pixelAt_copyLine (s := t.atLine) row (h.params ▸ hcol), ← columnPixel_fetchAddr, ← h.addr,
    ← h.columnPixel]
  exact if_congr (by rw [← h.outLine]; rfl) rfl rfl

theorem BurstAt.next (hskip : s.display.skipFrame = false) (h : BurstAt s r t) (hr : r < Config.lines) :
    BurstAt s (r + 1) (renderLine t) := by
  have hstrobe := h.renderLine_copies hbound hdma hskip hr
  obtain ⟨haddr, hleft, hcounted⟩ := h.renderLine_goesOn hbound hdma
  exact {
    frame := by rw [hstrobe, h.frame]; rfl
    addr := by rw [haddr, hstrobe]
    left := by rw [hleft, h.left, Nat.sub_sub]
    counted := by omega
    drawn := fun row col hrow hcol => by
      rw [h.pixelAt_renderLine hbound hdma hskip hr row hcol]
      split
      · next hlast => rw [hlast]
      · next hearlier => exact h.drawn row col (by omega) hcol }

/-- After the last row a strobe draws nothing. -/
theorem BurstAt.renderLine_over (h : BurstAt s Config.lines t) : renderLine t = t.atLine := by
  rw [h.renderLine_eq hbound hdma, drawLine_of_noLines]
  exact h.left

theorem BurstAt.over (h : BurstAt s Config.lines t) : BurstAt s Config.lines (renderLine t) := by
  have hstrobe := h.renderLine_over hbound hdma
  obtain ⟨haddr, hleft, hcounted⟩ := h.renderLine_goesOn hbound hdma
  exact {
    frame := by rw [hstrobe, h.frame]; rfl
    addr := by rw [haddr, hstrobe, ← h.addr]; rfl
    left := by rw [hleft, h.left]; rfl
    counted := by omega
    drawn := by rw [hstrobe]; exact h.drawn }

/-- After any number of strobes the burst stands before the row after those drawn. -/
theorem burstAt_repeated (hskip : s.display.skipFrame = false) (h : BurstAt s 0 s) (k : Nat) :
    BurstAt s (min k Config.lines) (repeated renderLine k s) := by
  induction k with
  | zero => exact h
  | succ k ih =>
    rw [repeated_succ_apply]
    obtain hlt | hge := Nat.lt_or_ge k Config.lines
    · rw [Nat.min_eq_left hlt.le] at ih
      rw [Nat.min_eq_left hlt]
      exact ih.next hbound hdma hskip hlt
    · rw [Nat.min_eq_right hge] at ih
      rw [Nat.min_eq_right (Nat.le_succ_of_le hge)]
      exact ih.over hbound hdma

/-- No strobe after the last row touches the surface. -/
theorem surface_repeated (hskip : s.display.skipFrame = false) (h : BurstAt s 0 s) {k : Nat} (hk : Config.lines ≤ k) :
    (repeated renderLine k s).surface = (repeated renderLine Config.lines s).surface := by
  induction k, hk using Nat.le_induction with
  | base => rfl
  | succ k hk ih =>
    have hover := burstAt_repeated hbound hdma hskip h k
    rw [Nat.min_eq_right hk] at hover
    rw [repeated_succ_apply, hover.renderLine_over hbound hdma, ← ih]
    rfl

end

end Sys2Proof.Machine

open Sys2Proof Sys2Proof.Machine

/-- Settles O45: the arming strobe finds the burst before row 0, and `burstAt_repeated` carries it to the end. -/
theorem burstDrawsTheFrame : Obligations.BurstDrawsTheFrame := by
  intro s k hbound hdma hskip hrow hpos harms hk
  have hstart : BurstAt s 0 s := .start hrow hpos harms
  have hburst := burstAt_repeated hbound hdma hskip hstart k
  rw [Nat.min_eq_right (show Config.lines ≤ k from hk)] at hburst
  have hbase : s.lineAddr = burstAddr s.params s.display.dispAddr s.display.flip := if_pos harms
  refine ⟨_, rfl, hburst.outLine, hburst.dmaLines, by rw [hburst.frame], surface_repeated hbound hdma hskip hstart hk,
    fun row col hr hcol => ⟨_, _, _, rfl, rfl, rfl, ?_⟩⟩
  rw [hburst.drawn row col hr hcol, hbase, ← columnPixel_fetchAddr, State.columnPixel, fetchAddr_fetchAddr,
    fetchAddr_burstAddr]
  rfl

end

section
/-! The invariant of the state (44_uart.md R144, 10_state.md R24, R25, R27, 40_update_dispatcher.md R74, 42_audio.md
R104): what each kind of write owes it, and that a pass, a reset and every command keep it. -/

namespace Sys2Proof.Machine

/-! ### The counts and the remembered sums -/

section
variable {s : State}

theorem CountsInRange.setCounter (h : CountsInRange s) (ref : CounterRef) {x : Counter} (hx : x.current ≤ 255) :
    CountsInRange (s.setCounter ref x) := by
  intro r
  by_cases hr : r = ref
  · rwa [hr, State.counter_setCounter]
  · rw [State.counter_setCounter_ne _ _ hr]
    exact h r

theorem CountsInRange.setChannel (h : CountsInRange s) (c : Fin 4) {a : AudioChannel} (ha : a.ctr.current ≤ 255) :
    CountsInRange (s.setChannel c a) := by
  intro r
  by_cases hr : r = .audio c
  · rw [hr, State.counter, State.channel_setChannel]
    exact ha
  · rw [State.counter_setChannel_ne _ _ hr]
    exact h r

/-- A count register holds at most 255 (30_encoding.md R62). -/
theorem countOfByte_le (val : Byte) : countOfByte val ≤ 255 := by
  have := val.isLt
  rw [countOfByte]
  omega

/-- A control write leaves the count (41_timers.md R95, 42_audio.md R117). -/
theorem Counter.current_control (x : Counter) (val : Byte) (cycle : Stamp) :
    (x.control val cycle).current = x.current := by rw [Counter.control_eq]

/-- What leaves the mixer and the channels' outputs alone keeps the remembered sums current. -/
theorem MixerCurrent.congr {t : State} (h : MixerCurrent s) (hmixer : t.mixer = s.mixer)
    (houtput : ∀ c, (t.channel c).output = (s.channel c).output) : MixerCurrent t := by
  obtain ⟨hleft, hright⟩ := State.sums_congr houtput (congrArg Mixer.stereoEnable hmixer)
    (congrArg Mixer.pan hmixer) (congrArg Mixer.atten hmixer)
  exact ⟨by rw [hmixer, hleft]; exact h.left, by rw [hmixer, hright]; exact h.right⟩

/-- A write of a channel that keeps its sample moves no sum. -/
theorem MixerCurrent.setChannel (h : MixerCurrent s) (c : Fin 4) {a : AudioChannel}
    (ha : a.output = (s.channel c).output) : MixerCurrent (s.setChannel c a) := by
  refine h.congr rfl fun d => ?_
  by_cases hd : d = c
  · rw [hd, State.channel_setChannel, ha]
  · rw [State.channel_setChannel_ne _ _ hd]

end

/-! ### The UART -/

theorem Uart.enqueueTail_ok {u : Uart} {p : Params} (h : u.Ok p) {w : SerialWord} (hw : p.word w = w) :
    (u.enqueueTail p w).Ok p :=
  ⟨Uart.enqueueTail_queueOk h.queue w, Uart.enqueueTail_inRange h.range w, Uart.enqueueTail_wordsFit h.words hw⟩

/-- What leaves the receive queue, its countdown and the received word alone owes the invariant the transmitter and the
framing flag. -/
theorem Uart.Ok.of_sameQueue {u v : Uart} {p : Params} (h : u.Ok p)
    (hsame : v = { v with
      rxActive := u.rxActive, rxCount := u.rxCount, rxq := u.rxq, rxqIn := u.rxqIn, rxqOut := u.rxqOut
      rxqWaiting := u.rxqWaiting, rxData := u.rxData })
    (hcount : v.txCount ≤ p.uartTxPeriod) (hdata : p.word v.txData = v.txData) (hframing : v.rxFraming = false) :
    v.Ok p := by
  obtain ⟨⟨hslots, hin, hout, htail, hroom, hactive⟩, hrange, hwords⟩ := h
  rw [hsame]
  exact ⟨⟨hslots, hin, hout, htail, hroom, hactive⟩, ⟨hcount, hrange.rx, hframing⟩,
    ⟨hwords.queued, hdata, hwords.receive⟩⟩

/-- An error reset clears the two error flags (44_uart.md R152). -/
theorem Uart.resetErrors_eq (u : Uart) (val : Byte) :
    u.resetErrors val =
      { u with
        rxOverrun := if val.getLsbD 3 = true then false else u.rxOverrun
        rxFraming := if val.getLsbD 3 = true then false else u.rxFraming } := by
  unfold Uart.resetErrors
  split <;> rfl

/-- A write of SERDAT arms the transmitter and loops the word back (44_uart.md R154). -/
theorem Uart.Ok.transmit {u : Uart} {p : Params} (h : u.Ok p) {w : SerialWord} (hw : p.word w = w) :
    ((({ u with txData := w } : Uart).armTransmit p).loopback p w).Ok p :=
  Uart.loopback_ok (u := Uart.armTransmit { u with txData := w } p)
    (h.of_sameQueue rfl le_rfl hw h.range.framing) hw

/-- A write of SERCTL (44_uart.md R152). -/
theorem Uart.Ok.control {u : Uart} {p : Params} (h : u.Ok p) (val : Byte) :
    (((u.writeControl val).resetErrors val).startBreak p val).Ok p := by
  have hflags : ((u.writeControl val).resetErrors val).Ok p := by
    rw [Uart.resetErrors_eq]
    exact h.of_sameQueue rfl h.range.tx h.words.transmit (by simp [Uart.writeControl, h.range.framing])
  unfold Uart.startBreak
  split
  · refine Uart.loopback_ok ?_ (word_word p _)
    exact hflags.of_sameQueue rfl le_rfl hflags.words.transmit hflags.range.framing
  · exact hflags

/-- The UART after reset, if the queue has a slot (70_reset_and_hazards.md R179). -/
theorem Uart.zero_ok {p : Params} (hdepth : 0 < p.rxqDepth) : (Uart.zero p).Ok p := by
  have hzero : p.word 0#16 = 0#16 := by simp [Params.word]
  refine ⟨⟨List.length_replicate, hdepth, hdepth, (Nat.zero_mod _).symm, Nat.zero_le _, by simp [Uart.zero]⟩,
    ⟨Nat.zero_le _, Nat.zero_le _, rfl⟩, ⟨fun w hw => ?_, hzero, hzero⟩⟩
  rw [List.eq_of_mem_replicate hw]
  exact hzero

/-! ### The invariant beside the counts, through a pass -/

/-- The invariant of the state but for the counts: what every single write of a pass keeps. -/
structure State.EnginesOk (s : State) : Prop where
  mem : Memory.wf s.mem = true
  surface : Surface.wf s.params s.surface = true
  uart : s.uart.Ok s.params
  display : s.display.InRange
  mixer : MixerCurrent s

theorem State.inv_iff {s : State} : s.Inv ↔ s.EnginesOk ∧ CountsInRange s :=
  ⟨fun h => ⟨⟨h.mem, h.surface, ⟨h.queue, h.uart, h.words⟩, h.display, h.mixer⟩, h.counts⟩,
    fun ⟨h, hcounts⟩ => ⟨h.mem, h.surface, h.uart.queue, h.uart.range, h.uart.words, h.display, hcounts, h.mixer⟩⟩

theorem State.Inv.uartOk {s : State} (h : s.Inv) : s.uart.Ok s.params := (State.inv_iff.1 h).1.uart

/-- A display routine owes the invariant the display's ranges and the surface's form. -/
theorem State.EnginesOk.displayOnly {s t : State} (h : s.EnginesOk) (honly : DisplayOnly s t)
    (hkeeps : t.display.InRange ∧ Surface.wf s.params t.surface = true) : t.EnginesOk := by
  obtain ⟨i, d, f, e, rfl⟩ := honly
  exact ⟨h.mem, hkeeps.2, h.uart, hkeeps.1, h.mixer.congr rfl fun _ => rfl⟩

theorem State.EnginesOk.uartTick {s : State} (h : s.EnginesOk) : (uartTick s).EnginesOk := by
  have huart := uartTick_uart h.uart
  obtain ⟨e, heq⟩ := uartTick_changes s
  rw [heq]
  exact ⟨h.mem, h.surface, huart, h.display, h.mixer.congr rfl fun _ => rfl⟩

theorem State.EnginesOk.audioUnderflow {s : State} (h : s.EnginesOk) (c : Fin 4) : (audioUnderflow c s).EnginesOk := by
  have hmixer : MixerCurrent (Machine.audioUnderflow c s) := mix_current _
  obtain ⟨e, heq⟩ := audioUnderflow_changes c s
  rw [heq] at hmixer ⊢
  exact ⟨h.mem, h.surface, h.uart, h.display, hmixer⟩

theorem output_rebase (s : State) (c : Fin 4) : ((rebase s).channel c).output = (s.channel c).output := by
  simp [rebase, State.channel]

theorem enginesOk_passKeeps : PassKeeps State.EnginesOk where
  setCounter s ref x h := by
    refine ⟨?_, ?_, ?_, ?_, h.mixer.setCounter ref x⟩
    · simpa using h.mem
    · simpa using h.surface
    · simpa using h.uart
    · simpa using h.display
  setLinkCarry s ref b h := by
    refine ⟨?_, ?_, ?_, ?_, h.mixer.congr (by simp) (by simp)⟩
    · simpa using h.mem
    · simpa using h.surface
    · simpa using h.uart
    · simpa using h.display
  nextEvent s t h := ⟨h.mem, h.surface, h.uart, h.display, h.mixer.congr rfl fun _ => rfl⟩
  rebase s h := ⟨h.mem, h.surface, h.uart, h.display, h.mixer.congr rfl (output_rebase s)⟩
  raiseInt s k h := ⟨h.mem, h.surface, h.uart, h.display, h.mixer.congr rfl fun _ => rfl⟩
  renderLine s h := h.displayOnly (renderLine_only s) (renderLine_keeps h.display h.surface)
  endOfFrame s h := h.displayOnly (endOfFrame_only s) (endOfFrame_keeps h.display h.surface)
  uartTick _ h := h.uartTick
  audioUnderflow _ c h := h.audioUnderflow c

/-! ### The invariant under each kind of write -/

section
variable {s t : State} (h : s.Inv)
include h

theorem State.Inv.updatePass : (updatePass s).Inv := by
  obtain ⟨hengines, hcounts⟩ := State.inv_iff.1 h
  exact State.inv_iff.2 ⟨enginesOk_passKeeps.updatePass hengines, countsInRange_updatePass hcounts⟩

/-- The invariant reads eight parts of the state. -/
theorem State.Inv.of_sameParts
    (hsame : t = { t with
      params := s.params, mem := s.mem, surface := s.surface, uart := s.uart, display := s.display
      timers := s.timers, audio := s.audio, mixer := s.mixer }) : t.Inv := by
  rw [hsame]
  exact ⟨h.mem, h.surface, h.queue, h.uart, h.words, h.display, h.counts, h.mixer.congr rfl fun _ => rfl⟩

theorem State.Inv.withUart {u : Uart} (hu : u.Ok s.params) : State.Inv { s with uart := u } :=
  ⟨h.mem, h.surface, hu.queue, hu.range, hu.words, h.display, h.counts, h.mixer.congr rfl fun _ => rfl⟩

theorem State.Inv.withDisplay {d : Display} (hd : d.InRange) : State.Inv { s with display := d } :=
  ⟨h.mem, h.surface, h.queue, h.uart, h.words, hd, h.counts, h.mixer.congr rfl fun _ => rfl⟩

theorem State.Inv.reschedule : s.reschedule.Inv := h.of_sameParts rfl

theorem State.Inv.returnByte (b : Byte) : (s.returnByte b).Inv := h.of_sameParts rfl

theorem State.Inv.setIntMask (n : Fin 8) (b : Bool) : (s.setIntMask n b).Inv := h.of_sameParts rfl

theorem State.Inv.pokeTimer (n : Fin 8) {x : Counter} (hx : x.current ≤ 255) : (s.pokeTimer n x).Inv :=
  State.Inv.reschedule ⟨h.mem, h.surface, h.queue, h.uart, h.words, h.display, h.counts.setCounter _ hx,
    h.mixer.setCounter _ x⟩

theorem State.Inv.pokeChannel (c : Fin 4) {a : AudioChannel} (hx : a.ctr.current ≤ 255)
    (houtput : a.output = (s.channel c).output) : (s.pokeChannel c a).Inv :=
  State.Inv.reschedule ⟨h.mem, h.surface, h.queue, h.uart, h.words, h.display, h.counts.setChannel c hx,
    h.mixer.setChannel c houtput⟩

/-- A mix makes the remembered sums current, whatever was written to the mixer and the samples (42_audio.md R104). -/
theorem State.Inv.mix (hstores : StoresKept s t) (huart : t.uart = s.uart) (hdisplay : t.display = s.display)
    (hcounts : CountsInRange t) : (mix t).Inv := by
  have hmixer := mix_current t
  rw [mix_eq] at hmixer ⊢
  exact {
    mem := hstores.mem ▸ h.mem
    surface := by simp only [hstores.params, hstores.surface, h.surface]
    queue := by simp only [hstores.params, huart, h.queue]
    uart := by simp only [hstores.params, huart, h.uart]
    words := by simp only [hstores.params, huart, h.words]
    display := hdisplay ▸ h.display
    counts := hcounts
    mixer := hmixer }

/-- A reset empties a queue that has a slot, since an index lies below its depth (R144). -/
theorem State.Inv.resetState : (resetState s).Inv := by
  have huart : (Uart.zero s.params).Ok s.params := Uart.zero_ok (Nat.lt_of_le_of_lt (Nat.zero_le _) h.queue.inIndex)
  refine ⟨h.mem, h.surface, huart.queue, huart.range, huart.words, ⟨Nat.zero_le _, Nat.zero_le _⟩, fun ref => ?_, ?_⟩
  · cases ref <;> simp [Machine.resetState, State.counter, State.timer, State.channel, Timer.zero, AudioChannel.zero,
      Counter.zero]
  · constructor <;> simp [Machine.resetState, State.leftSum, State.rightSum, State.leftTerm, State.rightTerm, Mixer.zero]

theorem State.Inv.powerDown : (powerDown s).Inv := h.resetState.of_sameParts rfl

theorem State.Inv.hostMemWrite (adr : BitVec 16) (b : Byte) : (s.hostMemWrite adr b).Inv :=
  ⟨Memory.wf_write h.mem adr b, h.surface, h.queue, h.uart, h.words, h.display, h.counts,
    h.mixer.congr rfl fun _ => rfl⟩

end

/-! ### Commands and steps -/

/-- No command writes the parameters (93_implementation_defined.md U21). -/
theorem exec_params {i : Instr} {s t : State} (h : exec i s = .next t) : t.params = s.params := by
  obtain ⟨hpass, -⟩ := updatePass_frame s
  rcases exec_runsPass_or_storesKept h with ⟨-, e | ⟨b, e⟩⟩ | hkept
  · rw [e, hpass]
  · rw [e, State.returnByte_params, hpass]
  · exact hkept.params

theorem exec_inv {i : Instr} {s t : State} (h : exec i s = .next t) (hs : s.Inv) : t.Inv := by
  cases i <;> obtain rfl := Host.Outcome.next.inj h
  case update => exact hs.updatePass
  case peekTimCnt | peekAudCount => exact hs.updatePass.returnByte _
  case reset => exact hs.resetState
  case pokeSysctl1 =>
    split
    · exact hs.of_sameParts rfl
    · exact hs.powerDown.of_sameParts rfl
  -- timers
  case pokeTimBkup n _ | pokeTimCtlb n _ => exact hs.pokeTimer n (hs.counts (.timer n))
  case pokeTimCtla n val =>
    refine (hs.setIntMask n _).pokeTimer n ?_
    rw [Counter.current_control]
    exact hs.counts (.timer n)
  case pokeTimCnt n val => exact hs.pokeTimer n (countOfByte_le val)
  -- audio channels
  case pokeAudVol c _ | pokeAudShftfb c _ | pokeAudL8shft c _ | pokeAudTback c _ | pokeAudMisc c _ =>
    exact hs.pokeChannel c (hs.counts (.audio c)) rfl
  case pokeAudCtl c val => exact hs.pokeChannel c (by rw [Counter.current_control]; exact hs.counts (.audio c)) rfl
  case pokeAudCount c val => exact hs.pokeChannel c (countOfByte_le val) rfl
  -- the mix
  case pokeAudOutval c val =>
    refine State.Inv.reschedule (hs.mix ⟨rfl, rfl, rfl, rfl⟩ rfl rfl ?_)
    exact hs.counts.setChannel c (hs.counts (.audio c))
  case pokeAtten | pokeMpan | pokeMstereo => exact hs.mix ⟨rfl, rfl, rfl, rfl⟩ rfl rfl hs.counts
  case setEpoch =>
    exact ⟨hs.mem, hs.surface, hs.queue, hs.uart, hs.words, hs.display, hs.counts, ⟨hs.mixer.left, hs.mixer.right⟩⟩
  -- the serial engine
  case rxInject w => exact hs.withUart (Uart.enqueueTail_ok hs.uartOk (word_word _ w))
  case pokeSerctl val => exact (hs.withUart (hs.uartOk.control val)).reschedule
  case peekSerdat =>
    refine State.Inv.returnByte (hs.withUart ?_) _
    exact hs.uartOk.of_sameQueue rfl hs.uart.tx hs.words.transmit hs.uart.framing
  case pokeSerdat val => exact hs.withUart (hs.uartOk.transmit (word_word _ _))
  case setCallback =>
    exact hs.withUart (hs.uartOk.of_sameQueue rfl hs.uart.tx hs.words.transmit hs.uart.framing)
  -- the display
  case pokeDispctl | pokeDispadrl | pokeDispadrh | pokeGreen | pokeBluered | setSkip =>
    exact hs.withDisplay ⟨hs.display.burst, hs.display.row⟩
  case bindSurface => exact hs.withDisplay ⟨hs.display.burst, Nat.zero_le _⟩
  -- every other command writes nothing the invariant reads
  case pokeIntset => split <;> exact hs.of_sameParts rfl
  case pokeIodat =>
    unfold State.cartEvents
    dsimp only
    split <;> exact hs.of_sameParts rfl
  all_goals exact hs.of_sameParts rfl

/-- Everything a completed step is: idling, a write of the host, or a command on the state with the input taken. -/
theorem step_cases {s t : State} (h : step s = .next t) :
    t = s ∨ ∃ rest, (∃ adr b, t = State.hostMemWrite { s with pending := rest, result := none } adr b) ∨
      ∃ i, exec i { s with pending := rest, result := none } = .next t := by
  cases hpending : s.pending with
  | nil =>
    simp only [step, State.takeInput, hpending] at h
    exact .inl (Host.Outcome.next.inj h).symm
  | cons input rest =>
    refine .inr ⟨rest, ?_⟩
    simp only [step, State.takeInput_cons hpending] at h
    cases input with
    | memWrite adr b => exact .inl ⟨adr, b, (Host.Outcome.next.inj h).symm⟩
    | command w =>
      right
      cases hdecode : decode w with
      | ok i => exact ⟨i, by simpa only [hdecode] using h⟩
      | error e => simp only [hdecode] at h; cases h

end Sys2Proof.Machine

open Sys2Proof Sys2Proof.Machine

/-- Settles O59: the host's writes keep the memory's form, and `exec_inv` covers the commands, the state with the
input taken being the same to the invariant. -/
theorem stepKeepsInvariant : Obligations.StepKeepsInvariant := by
  intro s t h
  obtain rfl | ⟨rest, ⟨adr, b, rfl⟩ | ⟨i, hexec⟩⟩ := step_cases h
  · exact ⟨rfl, id⟩
  all_goals
    have htaken : s.Inv → State.Inv { s with pending := rest, result := none } := fun hs =>
      hs.of_sameParts rfl
  · exact ⟨rfl, fun hs => (htaken hs).hostMemWrite adr b⟩
  · have hparams := exec_params hexec
    exact ⟨hparams, fun hs => exec_inv hexec (htaken hs)⟩

end

section
/-! The serial registers and the receive queue (44_uart.md R142 to R145, R149, R151 to R154): the status byte bit by bit,
the widths of a word, and what an insertion at either end writes. -/

namespace Sys2Proof.Machine

/-- SERCTL bit by bit (R151). -/
theorem serctlByte_bits (u : Uart) :
    ((serctlByte u).getLsbD 7 = true ↔ u.txActive = false) ∧ (serctlByte u).getLsbD 6 = u.rxReady ∧
      ((serctlByte u).getLsbD 5 = true ↔ u.txActive = false) ∧ (serctlByte u).getLsbD 4 = false ∧
      (serctlByte u).getLsbD 3 = u.rxOverrun ∧ (serctlByte u).getLsbD 2 = u.rxFraming ∧
      (serctlByte u).getLsbD 1 = u.rxData.getLsbD 15 ∧ (serctlByte u).getLsbD 0 = u.rxData.getLsbD 8 := by
  simp only [serctlByte, getLsbD_byteOfBits]
  simp

/-- A word keeps the low `UART_WORD_W` bits (R142). -/
theorem getLsbD_word (p : Params) (w : SerialWord) {k : Nat} (hk : k < 16) :
    (p.word w).getLsbD k = (decide (k < p.uartWordW) && w.getLsbD k) := by
  rw [Params.word, BitVec.getLsbD_setWidth, BitVec.getLsbD_setWidth, decide_eq_true hk, Bool.true_and]

/-! ### Insertion at either end of the queue (R145) -/

section
variable {u : Uart} {p : Params} (w : SerialWord)

/-- The slots of a queue after one of them was written. -/
theorem Uart.slot_set {v : Uart} {i : Nat} (hi : i < u.rxq.length) (hv : v.rxq = u.rxq.set i w) (k : Nat) :
    v.slot k = if k = i then w else u.slot k := by
  rw [Uart.slot, Uart.slot, hv, List.getD_eq_getElem?_getD, List.getD_eq_getElem?_getD, List.getElem?_set]
  by_cases hk : k = i
  · rw [if_pos hk.symm, if_pos hk, if_pos hi, Option.getD_some]
  · rw [if_neg (Ne.symm hk), if_neg hk]

theorem Uart.loopback_of_full (h : u.rxqWaiting = p.rxqDepth) : u.loopback p w = u := by
  rw [Uart.loopback_eq, if_neg h.not_lt]

theorem Uart.enqueueTail_of_full (h : u.rxqWaiting = p.rxqDepth) : u.enqueueTail p w = u := by
  rw [Uart.enqueueTail_eq, if_neg h.not_lt]

variable (hok : u.QueueOk p) (hroom : u.rxqWaiting < p.rxqDepth)
include hok

/-- An insertion leaves the receive countdown active: it was, or the queue was empty (R144). -/
theorem Uart.QueueOk.active_of_insertion : (if u.rxqWaiting = 0 then true else u.rxActive) = true := by
  split
  · rfl
  · next hwaiting => exact hok.active.2 (Nat.pos_of_ne_zero hwaiting)

include hroom

/-- A looped-back word goes to the slot before the head (R145). -/
theorem Uart.loopback_of_room :
    u.loopback p w =
      { u with
        rxActive := true
        rxCount := if u.rxqWaiting = 0 then p.uartRxPeriod else u.rxCount
        rxqOut := rxqPred p u.rxqOut
        rxq := u.rxq.set (rxqPred p u.rxqOut) w
        rxqWaiting := u.rxqWaiting + 1 } := by
  rw [Uart.loopback_eq, if_pos hroom, hok.active_of_insertion]

/-- A word from the wire goes to the slot after the tail (R145). -/
theorem Uart.enqueueTail_of_room :
    u.enqueueTail p w =
      { u with
        rxActive := true
        rxCount := if u.rxqWaiting = 0 then p.uartRxPeriod else u.rxCount
        rxqIn := rxqSucc p u.rxqIn
        rxq := u.rxq.set u.rxqIn w
        rxqWaiting := u.rxqWaiting + 1 } := by
  rw [Uart.enqueueTail_eq, if_pos hroom, hok.active_of_insertion]

/-- Insertion at the front: the new head, the queue slot by slot, and the frame. -/
theorem Uart.loopback_spec :
    (u.loopback p w).rxqOut = (u.rxqOut + (p.rxqDepth - 1)) % p.rxqDepth ∧
      (u.loopback p w).rxq.length = p.rxqDepth ∧
      (∀ k, (u.loopback p w).slot k = if k = (u.loopback p w).rxqOut then w else u.slot k) ∧
      u.loopback p w =
        { u with
          rxActive := true
          rxCount := if u.rxqWaiting = 0 then p.uartRxPeriod else u.rxCount
          rxqOut := (u.loopback p w).rxqOut
          rxq := (u.loopback p w).rxq
          rxqWaiting := u.rxqWaiting + 1 } := by
  have hslot : rxqPred p u.rxqOut < u.rxq.length := by
    rw [hok.slots]
    exact rxqPred_lt hok.outIndex
  rw [Uart.loopback_of_room w hok hroom]
  exact ⟨rfl, List.length_set.trans hok.slots, Uart.slot_set w hslot rfl, rfl⟩

/-- Insertion at the back. -/
theorem Uart.enqueueTail_spec :
    (u.enqueueTail p w).rxqIn = (u.rxqIn + 1) % p.rxqDepth ∧
      (u.enqueueTail p w).rxq.length = p.rxqDepth ∧
      (∀ k, (u.enqueueTail p w).slot k = if k = u.rxqIn then w else u.slot k) ∧
      u.enqueueTail p w =
        { u with
          rxActive := true
          rxCount := if u.rxqWaiting = 0 then p.uartRxPeriod else u.rxCount
          rxqIn := (u.enqueueTail p w).rxqIn
          rxq := (u.enqueueTail p w).rxq
          rxqWaiting := u.rxqWaiting + 1 } := by
  have hslot : u.rxqIn < u.rxq.length := by
    rw [hok.slots]
    exact hok.inIndex
  rw [Uart.enqueueTail_of_room w hok hroom]
  exact ⟨rfl, List.length_set.trans hok.slots, Uart.slot_set w hslot rfl, rfl⟩

end

end Sys2Proof.Machine

open Sys2Proof Sys2Proof.Machine

/-- Settles O24: the read returns the status byte, which is read off bit by bit. -/
theorem serialStatusPeek : Obligations.SerialStatusPeek := fun d s =>
  ⟨decode_peek_of_encode rfl rfl d, _, rfl, serctlByte_bits s.uart⟩

/-- Settles O25: the flags and the error reset are field writes; the break is one conditional. -/
theorem serialControlPoke : Obligations.SerialControlPoke := by
  intro val s
  refine ⟨_, (s.uart.writeControl val).resetErrors val, rfl, ?_, rfl, rfl⟩
  rw [Uart.resetErrors_eq]
  rfl

/-- Settles O26: both accesses write the named fields of the UART. -/
theorem serialDataAccess : Obligations.SerialDataAccess := fun _ _ => ⟨rfl, rfl⟩

/-- Settles O27: `Uart.loopback_spec` at the front, `Uart.enqueueTail_spec` at the back. -/
theorem queueInsertion : Obligations.QueueInsertion := by
  refine ⟨fun w s => ⟨rfl, fun k hk => getLsbD_word _ w hk⟩, fun w p u hok => ⟨fun hfull => ?_, fun hroom => ?_⟩⟩
  · exact ⟨Uart.loopback_of_full w hfull, Uart.enqueueTail_of_full w hfull⟩
  · obtain ⟨hout, hfront, hfrontSlots, hfrontFrame⟩ := Uart.loopback_spec w hok hroom
    obtain ⟨hin, hback, hbackSlots, hbackFrame⟩ := Uart.enqueueTail_spec w hok hroom
    exact ⟨⟨hout, hfront, fun k _ => hfrontSlots k, hfrontFrame⟩, ⟨hin, hback, fun k _ => hbackSlots k, hbackFrame⟩⟩

end

section
/-! The UART tick (44_uart.md R146) and the loopback law (R148): everything a tick can do, and both sides of the engine
after any number of ticks without a latched break. -/

namespace Sys2Proof.Machine

/-! ### The parts of a tick -/

/-- What a completed transmission hands a bound callback (R146, R150). -/
def Uart.report (u : Uart) (w : SerialWord) : List Event := if u.callbackBound = true then [.txByte w] else []

section
variable (u : Uart) (p : Params)

/-- The receive side leaves the transmitter, the settings and the queue's back alone. -/
theorem Uart.receiveTick_frame :
    u.receiveTick p =
      { u with
        rxActive := (u.receiveTick p).rxActive, rxCount := (u.receiveTick p).rxCount
        rxqOut := (u.receiveTick p).rxqOut, rxqWaiting := (u.receiveTick p).rxqWaiting
        rxData := (u.receiveTick p).rxData, rxReady := (u.receiveTick p).rxReady
        rxOverrun := (u.receiveTick p).rxOverrun } := by
  obtain ⟨-, e⟩ | ⟨-, -, e⟩ | ⟨-, -, -, e⟩ | ⟨-, -, -, e⟩ := u.receiveTick_cases p <;> rw [e]

@[simp] theorem Uart.receiveTick_txActive : (u.receiveTick p).txActive = u.txActive := by rw [u.receiveTick_frame]
@[simp] theorem Uart.receiveTick_txCount : (u.receiveTick p).txCount = u.txCount := by rw [u.receiveTick_frame]
@[simp] theorem Uart.receiveTick_txData : (u.receiveTick p).txData = u.txData := by rw [u.receiveTick_frame]
@[simp] theorem Uart.receiveTick_sendBreak : (u.receiveTick p).sendBreak = u.sendBreak := by rw [u.receiveTick_frame]
@[simp] theorem Uart.receiveTick_callbackBound : (u.receiveTick p).callbackBound = u.callbackBound := by
  rw [u.receiveTick_frame]

theorem Uart.receiveTick_of_inactive (h : u.rxActive = false) : u.receiveTick p = u := by
  rw [Uart.receiveTick, if_neg (Bool.eq_false_iff.1 h)]

theorem Uart.receiveTick_of_counting (hactive : u.rxActive = true) (hcount : u.rxCount ≠ 0) :
    u.receiveTick p = { u with rxCount := u.rxCount - 1 } := by
  rw [Uart.receiveTick, if_pos hactive, if_neg hcount]

/-- Under the queue's invariant an expiring countdown finds a word (R144), delivers it and is re-armed for a further
one. -/
theorem Uart.receiveTick_of_expiry (hok : u.QueueOk p) (hactive : u.rxActive = true) (hcount : u.rxCount = 0) :
    u.receiveTick p =
      { u with
        rxOverrun := u.rxOverrun || u.rxReady
        rxData := u.slot u.rxqOut
        rxReady := true
        rxqOut := rxqSucc p u.rxqOut
        rxqWaiting := u.rxqWaiting - 1
        rxActive := decide (1 < u.rxqWaiting)
        rxCount := if 1 < u.rxqWaiting then p.uartRxPeriod + p.uartRxNextDelay else 0 } := by
  have hwaiting := hok.active.1 hactive
  obtain ⟨h, -⟩ | ⟨-, h, -⟩ | ⟨-, -, -, e⟩ | ⟨-, -, h, -⟩ := u.receiveTick_cases p
  · rw [hactive] at h; cases h
  · exact absurd hcount h
  · exact e
  · omega

/-- A loopback writes the queue and its countdown alone. -/
theorem Uart.loopback_frame (w : SerialWord) :
    u.loopback p w =
      { u with
        rxActive := (u.loopback p w).rxActive, rxCount := (u.loopback p w).rxCount
        rxq := (u.loopback p w).rxq, rxqOut := (u.loopback p w).rxqOut
        rxqWaiting := (u.loopback p w).rxqWaiting } := by
  rw [Uart.loopback_eq]
  split <;> rfl

end

/-! ### One tick -/

section
variable {s : State}

theorem uartTick_of_inactive (hactive : s.uart.txActive = false) :
    uartTick s = { s with uart := s.uart.receiveTick s.params } := by
  rw [uartTick, transmitTick, if_neg (by simp [hactive])]

theorem uartTick_of_counting (hactive : s.uart.txActive = true) (hcount : s.uart.txCount ≠ 0) :
    uartTick s = { s with uart := { s.uart.receiveTick s.params with txCount := s.uart.txCount - 1 } } := by
  rw [uartTick, transmitTick, if_pos (by simp [hactive]), if_neg (by simp [hcount])]
  simp

/-- An expiring transmission completes, and a bound callback gets the word as it then stands. -/
theorem transmitTick_of_expiry (hactive : s.uart.txActive = true) (hcount : s.uart.txCount = 0) :
    transmitTick s =
      { s with
        uart := s.uart.completeTransmit s.params
        events := s.events ++
          (s.uart.completeTransmit s.params).report (s.uart.completeTransmit s.params).txData } := by
  rw [transmitTick, if_pos hactive, if_pos hcount, Uart.report]
  dsimp only
  split
  · rfl
  · rw [List.append_nil]

/-- With no break latched the transmitter goes idle. -/
theorem uartTick_of_completion (hactive : s.uart.txActive = true) (hcount : s.uart.txCount = 0)
    (hbreak : s.uart.sendBreak = false) :
    uartTick s =
      { s with
        uart := { s.uart.receiveTick s.params with txActive := false }
        events := s.events ++ s.uart.report s.uart.txData } := by
  rw [uartTick, transmitTick_of_expiry (by simp [hactive]) (by simp [hcount]), Uart.completeTransmit,
    if_neg (by simp [hbreak])]
  simp only [Uart.report, Uart.receiveTick_callbackBound, Uart.receiveTick_txData]

/-- With a break latched it starts again with the break code, which is looped back. -/
theorem uartTick_of_break (hactive : s.uart.txActive = true) (hcount : s.uart.txCount = 0)
    (hbreak : s.uart.sendBreak = true) :
    uartTick s =
      { s with
        uart := ({ s.uart.receiveTick s.params with
          txData := s.params.breakWord, txCount := s.params.uartTxPeriod }).loopback s.params s.params.breakWord
        events := s.events ++ s.uart.report s.params.breakWord } := by
  rw [uartTick, transmitTick_of_expiry (by simp [hactive]) (by simp [hcount]), Uart.completeTransmit,
    if_pos (by simp [hbreak]), Uart.report, Uart.loopback_frame]
  simp only [Uart.report, Uart.receiveTick_callbackBound]

/-- With no break latched the transmitter is inactive, counts or completes. -/
theorem uartTick_cases_of_noBreak
    (h : ¬(s.uart.txActive = true ∧ s.uart.txCount = 0 ∧ s.uart.sendBreak = true)) :
    (s.uart.txActive = false ∧ uartTick s = { s with uart := s.uart.receiveTick s.params }) ∨
    (s.uart.txActive = true ∧ s.uart.txCount ≠ 0 ∧
      uartTick s = { s with uart := { s.uart.receiveTick s.params with txCount := s.uart.txCount - 1 } }) ∨
    (s.uart.txActive = true ∧ s.uart.txCount = 0 ∧
      uartTick s =
        { s with
          uart := { s.uart.receiveTick s.params with txActive := false }
          events := s.events ++ s.uart.report s.uart.txData }) := by
  cases hactive : s.uart.txActive
  · exact .inl ⟨rfl, uartTick_of_inactive hactive⟩
  by_cases hcount : s.uart.txCount = 0
  · exact .inr (.inr ⟨rfl, hcount, uartTick_of_completion hactive hcount (by simpa [hactive, hcount] using h)⟩)
  · exact .inr (.inl ⟨rfl, hcount, uartTick_of_counting hactive hcount⟩)

/-- Then the tick shows the receive side's registers and queue. -/
theorem uartTick_uart_of_noBreak
    (h : ¬(s.uart.txActive = true ∧ s.uart.txCount = 0 ∧ s.uart.sendBreak = true)) :
    (uartTick s).uart =
      { s.uart.receiveTick s.params with
        txActive := (uartTick s).uart.txActive, txCount := (uartTick s).uart.txCount } := by
  obtain ⟨-, e⟩ | ⟨-, -, e⟩ | ⟨-, -, e⟩ := uartTick_cases_of_noBreak h <;> rw [e]

/-- And the transmitter counts or completes, reporting its word once. -/
theorem uartTick_sent_of_noBreak
    (h : ¬(s.uart.txActive = true ∧ s.uart.txCount = 0 ∧ s.uart.sendBreak = true)) :
    (uartTick s).uart.txActive = (s.uart.txActive && decide (s.uart.txCount ≠ 0)) ∧
      (uartTick s).uart.txCount = (if s.uart.txActive = true then s.uart.txCount - 1 else s.uart.txCount) ∧
      (uartTick s).uart.txData = s.uart.txData ∧
      (uartTick s).events =
        s.events ++ if s.uart.txActive = true ∧ s.uart.txCount = 0 then s.uart.report s.uart.txData else [] := by
  obtain ⟨hactive, e⟩ | ⟨hactive, hcount, e⟩ | ⟨hactive, hcount, e⟩ := uartTick_cases_of_noBreak h <;>
    rw [e] <;> simp [*]

end

/-- Whatever the transmitter does, the tick shows the receive side's data registers. -/
theorem uartTick_received (s : State) :
    (uartTick s).uart.rxData = (s.uart.receiveTick s.params).rxData ∧
      (uartTick s).uart.rxReady = (s.uart.receiveTick s.params).rxReady ∧
      (uartTick s).uart.rxOverrun = (s.uart.receiveTick s.params).rxOverrun := by
  by_cases h : s.uart.txActive = true ∧ s.uart.txCount = 0 ∧ s.uart.sendBreak = true
  · obtain ⟨hactive, hcount, hbreak⟩ := h
    rw [uartTick_of_break hactive hcount hbreak]
    dsimp only
    rw [Uart.loopback_frame]
    exact ⟨rfl, rfl, rfl⟩
  · rw [uartTick_uart_of_noBreak h]
    exact ⟨rfl, rfl, rfl⟩

/-! ### Many ticks, no break latched -/

theorem params_repeated (k : Nat) (s : State) : (repeated uartTick k s).params = s.params := by
  induction k with
  | zero => rfl
  | succ k ih =>
    obtain ⟨e, heq⟩ := uartTick_changes (repeated uartTick k s)
    rw [repeated_succ_apply, heq, ih]

/-- `t` stands `k` ticks after `s` on the transmit side, where a transmission was running: it still runs down its
countdown, or it has completed and was reported once. -/
structure Sent (s : State) (k : Nat) (t : State) : Prop where
  active : t.uart.txActive = decide (k ≤ s.uart.txCount)
  count : t.uart.txCount = s.uart.txCount - k
  data : t.uart.txData = s.uart.txData
  settings : s.uart.SameSettings t.uart
  events : t.events = s.events ++ if k ≤ s.uart.txCount then [] else s.uart.report s.uart.txData

section
variable {s : State} (hbreak : s.uart.sendBreak = false)
include hbreak

theorem Sent.next {t : State} {k : Nat} (h : Sent s k t) : Sent s (k + 1) (uartTick t) := by
  obtain ⟨hactive, hcount, hdata, hsettings, hevents⟩ := h
  have hnone : t.uart.sendBreak = false := hsettings.sendBreak.trans hbreak
  obtain ⟨hactive', hcount', hdata', hevents'⟩ := uartTick_sent_of_noBreak (s := t) (by simp [hnone])
  have hreport : t.uart.report t.uart.txData = s.uart.report s.uart.txData := by
    rw [Uart.report, Uart.report, hsettings.callbackBound, hdata]
  simp only [hactive, hcount, hreport, hevents, decide_eq_true_iff, List.append_assoc, ← Bool.decide_and]
    at hactive' hcount' hevents'
  refine ⟨hactive'.trans (decide_eq_decide.2 (by omega)), hcount'.trans ?_, hdata'.trans hdata,
    hsettings.trans (uartTick_settings t), hevents'.trans (congrArg _ ?_)⟩
  · split <;> omega
  · obtain hlt | rfl | hgt := Nat.lt_trichotomy k s.uart.txCount
    · rw [if_pos hlt.le, if_neg (by omega), if_pos (by omega)]; rfl
    · simp
    · rw [if_neg (by omega), if_neg (by omega), if_neg (by omega), List.append_nil]

theorem sent_repeated (hactive : s.uart.txActive = true) (k : Nat) : Sent s k (repeated uartTick k s) := by
  induction k with
  | zero => exact ⟨by simp [hactive, repeated], rfl, rfl, ⟨rfl, rfl, rfl, rfl, rfl, rfl, rfl⟩, by simp [repeated]⟩
  | succ k ih =>
    rw [repeated_succ_apply]
    exact ih.next hbreak

variable (htransmits : s.uart.txActive = true) (hactive : s.uart.rxActive = true)
include htransmits hactive

/-- While the receive countdown runs, the receive side counts and leaves the queue alone. -/
theorem uart_repeated_counting {k : Nat} (hk : k ≤ s.uart.rxCount) :
    (repeated uartTick k s).uart =
      { s.uart with
        rxCount := s.uart.rxCount - k
        txActive := (repeated uartTick k s).uart.txActive, txCount := (repeated uartTick k s).uart.txCount } := by
  induction k with
  | zero => rfl
  | succ k ih =>
    have hsent := sent_repeated hbreak htransmits k
    have hlast := ih (by omega)
    rw [repeated_succ_apply]
    generalize repeated uartTick k s = t at hsent hlast
    have hnone : t.uart.sendBreak = false := hsent.settings.sendBreak.trans hbreak
    have hcounts : t.uart.receiveTick t.params = { t.uart with rxCount := t.uart.rxCount - 1 } :=
      Uart.receiveTick_of_counting _ _ (by rw [hlast]; exact hactive) (by rw [hlast]; dsimp only; omega)
    rw [uartTick_uart_of_noBreak (by simp [hnone]), hcounts, hlast]
    rfl

/-- The tick after it has run down delivers the head of the queue. -/
theorem uart_repeated_delivers (hok : s.uart.QueueOk s.params) :
    (repeated uartTick (s.uart.rxCount + 1) s).uart.rxData = s.uart.slot s.uart.rxqOut ∧
      (repeated uartTick (s.uart.rxCount + 1) s).uart.rxReady = true ∧
      (repeated uartTick (s.uart.rxCount + 1) s).uart.rxActive = decide (1 < s.uart.rxqWaiting) := by
  have hlast := uart_repeated_counting hbreak htransmits hactive le_rfl
  have hparams := params_repeated s.uart.rxCount s
  rw [repeated_succ_apply]
  generalize repeated uartTick s.uart.rxCount s = t at hlast hparams
  have hqueue : t.uart.QueueOk t.params := by
    rw [hlast, hparams]
    exact ⟨hok.slots, hok.inIndex, hok.outIndex, hok.tail, hok.room, hok.active⟩
  have hdelivers := Uart.receiveTick_of_expiry _ _ hqueue (by rw [hlast]; exact hactive)
    (by rw [hlast]; exact Nat.sub_self _)
  have hnone : t.uart.sendBreak = false := by rw [hlast]; exact hbreak
  rw [uartTick_uart_of_noBreak (by simp [hnone]), hdelivers, hlast]
  exact ⟨rfl, rfl, rfl⟩

end

/-- A write of SERDAT that finds room puts its word at the head of the queue and arms both countdowns, the receive one
only if the queue was empty (R154, R145). -/
theorem exec_pokeSerdat_of_room {s : State} (val : Byte) (hok : s.uart.QueueOk s.params)
    (hroom : s.uart.rxqWaiting < s.params.rxqDepth) :
    ∃ u : Uart, exec (.pokeSerdat val) s = .next { s with uart := u } ∧ u.QueueOk s.params ∧
      u.slot u.rxqOut = s.params.word (val.setWidth 16) ∧
      u = { s.uart with
        txData := s.params.word (val.setWidth 16), txActive := true, txCount := s.params.uartTxPeriod
        rxActive := true, rxCount := if s.uart.rxqWaiting = 0 then s.params.uartRxPeriod else s.uart.rxCount
        rxqOut := u.rxqOut, rxq := u.rxq, rxqWaiting := s.uart.rxqWaiting + 1 } := by
  have harmed : (Uart.armTransmit { s.uart with txData := serialOfByte s.params val } s.params).QueueOk s.params := by
    obtain ⟨hslots, hin, hout, htail, hroomy, hactive⟩ := hok
    exact ⟨hslots, hin, hout, htail, hroomy, hactive⟩
  obtain ⟨-, -, hslot, hframe⟩ := Uart.loopback_spec (serialOfByte s.params val) harmed hroom
  exact ⟨_, rfl, Uart.loopback_queueOk harmed _, (hslot _).trans (if_pos rfl), hframe⟩

end Sys2Proof.Machine

open Sys2Proof Sys2Proof.Machine

/-- Settles O28: the receive side is one of three equations, and the tick shows it but where a break is looped back. -/
theorem serialTickReceives : Obligations.SerialTickReceives := by
  intro s hok
  obtain ⟨hdata, hready, hoverrun⟩ := uartTick_received s
  refine ⟨_, _, rfl, rfl, ?_, Uart.receiveTick_of_inactive _ _, Uart.receiveTick_of_counting _ _,
    Uart.receiveTick_of_expiry _ _ hok, hdata, hready, hoverrun, uartTick_uart_of_noBreak, fun hrx htx => ?_⟩
  · obtain ⟨e, heq⟩ := uartTick_changes s
    rw [heq]
  · rw [uartTick_of_inactive htx, Uart.receiveTick_of_inactive _ _ hrx]

/-- Settles O29: the transmit side is one of four equations; a looped-back break is an insertion at the front. -/
theorem serialTickTransmits : Obligations.SerialTickTransmits := by
  intro s
  refine ⟨fun hactive hcount => ?_, fun hactive hcount => ?_, fun hactive hcount hbreak hok => ?_, fun hactive => ?_⟩
  · rw [uartTick_of_counting hactive hcount]
    simp [hactive]
  · cases hbreak : s.uart.sendBreak
    · rw [uartTick_of_completion hactive hcount hbreak]
      simp [hcount, Uart.report]
    · rw [uartTick_of_break hactive hcount hbreak, Uart.loopback_frame]
      simp [hactive, Uart.report]
  · have hreceived := Uart.receiveTick_queueOk hok
    refine ⟨_, _, rfl, rfl, ?_⟩
    rw [uartTick_of_break hactive hcount hbreak]
    generalize s.uart.receiveTick s.params = u at hreceived
    refine ⟨fun hfull => Uart.loopback_of_full _ hfull, fun hroom => ?_⟩
    obtain ⟨hslots, hin, hout, htail, hroomy, hactive⟩ := hreceived
    obtain ⟨hfront, hlength, hqueue, hframe⟩ := Uart.loopback_spec s.params.breakWord
      (u := { u with txData := s.params.breakWord, txCount := s.params.uartTxPeriod })
      ⟨hslots, hin, hout, htail, hroomy, hactive⟩ hroom
    exact ⟨hfront, hlength, fun k _ => hqueue k, hframe⟩
  · rw [uartTick_of_inactive hactive]
    simp [hactive]

/-- Settles O30: after the write (`exec_pokeSerdat_of_room`) the receive side is `uart_repeated_delivers`, the transmit side
`sent_repeated`. -/
theorem loopbackDelivers : Obligations.LoopbackDelivers := by
  intro s t val hok hroom hbreak ht
  obtain ⟨u, hexec, hqueue, hhead, hu⟩ := exec_pokeSerdat_of_room val hok hroom
  obtain rfl := Host.Outcome.next.inj (hexec.symm.trans ht)
  have hnone : u.sendBreak = false := by rw [hu]; exact hbreak
  have hsends : u.txActive = true := by rw [hu]
  have hreceives : u.rxActive = true := by rw [hu]
  have hcount : u.rxCount = if s.uart.rxqWaiting = 0 then s.params.uartRxPeriod else s.uart.rxCount := by rw [hu]
  obtain ⟨hdata, hready, hactive⟩ := uart_repeated_delivers (s := { s with uart := u }) hnone hsends hreceives hqueue
  have hsent := sent_repeated (s := { s with uart := u }) hnone hsends (u.rxCount + 1)
  rw [← hcount]
  refine ⟨_, rfl, hdata.trans hhead, hready, fun hempty hperiods => ?_⟩
  have hover : ¬ u.rxCount + 1 ≤ u.txCount := by
    rw [hcount, if_pos hempty, hu]
    dsimp only
    omega
  have hreport : u.report u.txData =
      if s.uart.callbackBound = true then [.txByte (s.params.word (val.setWidth 16))] else [] := by
    rw [hu]; rfl
  refine ⟨hsent.active.trans (decide_eq_false hover), hactive.trans (decide_eq_false ?_), ?_⟩
  · dsimp only
    rw [hu]
    dsimp only
    omega
  · rw [← hreport]
    exact hsent.events.trans (congrArg _ (if_neg hover))

end

section
/-! The illegal accesses (45_system_registers.md R155): which commands they are, what they do, and the offsets the
decoder gives them. -/

namespace Sys2Proof

/-- The commands of the illegal reads. -/
def Instr.isIllegalPeek : Instr → Bool
  | .peekIllegal45 | .peekIllegal46 _ | .peekIllegal48 _ | .peekIllegal51 | .peekIllegal52 _ | .peekIllegal54 _
  | .peekIllegal58 _ | .peekIllegal60 _ | .peekIllegal82 _ | .peekIllegal87 | .peekIllegal89 | .peekIllegal8A
  | .peekIllegal8E _ | .peekIllegal90 _ | .peekIllegalC0 _ => true
  | _ => false

/-- The commands of the illegal writes. -/
def Instr.isIllegalPoke : Instr → Bool
  | .pokeIllegal45 _ | .pokeIllegal46 _ _ | .pokeIllegal48 _ _ | .pokeIllegal51 _ | .pokeIllegal52 _ _
  | .pokeIllegal54 _ _ | .pokeIllegal58 _ _ | .pokeIllegal60 _ _ | .pokeIllegal82 _ _ | .pokeIllegal84 _ _
  | .pokeIllegal86 _ | .pokeIllegal88 _ | .pokeIllegal8E _ _ | .pokeIllegal96 _ _ | .pokeIllegal98 _ _
  | .pokeIllegal9F _ | .pokeIllegalC0 _ _ => true
  | _ => false

/-- The offsets R155 lists for both directions. -/
abbrev IllegalBothWays (off : Byte) : Prop :=
  (0x45#8 ≤ off ∧ off ≤ 0x4F#8) ∨ (0x51#8 ≤ off ∧ off ≤ 0x7F#8) ∨ off = 0x82#8 ∨ off = 0x83#8 ∨ off = 0x8E#8 ∨
    off = 0x8F#8 ∨ (0x96#8 ≤ off ∧ off ≤ 0x9B#8) ∨ off = 0x9F#8 ∨ 0xC0#8 ≤ off

/-- The offsets R155 lists for PEEK alone: registers that are only written. -/
abbrev IllegalToPeek (off : Byte) : Prop :=
  off = 0x87#8 ∨ off = 0x89#8 ∨ off = 0x8A#8 ∨ (0x90#8 ≤ off ∧ off ≤ 0x95#8) ∨ (0x9C#8 ≤ off ∧ off ≤ 0x9E#8)

/-- The offsets R155 lists for POKE alone: registers that are only read. -/
abbrev IllegalToPoke (off : Byte) : Prop := off = 0x84#8 ∨ off = 0x85#8 ∨ off = 0x86#8 ∨ off = 0x88#8

/-- The list is complete for PEEK: the decoder gives an illegal read at the listed offsets and at no other. -/
theorem isIllegalPeek_decodePeek :
    ∀ off : Byte, (decodePeek off).isIllegalPeek = true ↔ IllegalBothWays off ∨ IllegalToPeek off := by decide

/-- The byte of a POKE does not decide whether it is illegal. -/
theorem isIllegalPoke_decodePoke_byte (off val : Byte) :
    (decodePoke off val).isIllegalPoke = (decodePoke off 0).isIllegalPoke := by
  unfold decodePoke
  split
  -- format S: the answer of a chain of tests is the chain of the answers
  case h_16 => simp only [decodePokeSingle, apply_ite Instr.isIllegalPoke]; rfl
  all_goals rfl

/-- The list is complete for POKE of the byte 0: the offsets one by one. -/
theorem isIllegalPoke_decodePoke_zero :
    ∀ off : Byte, (decodePoke off 0).isIllegalPoke = true ↔ IllegalBothWays off ∨ IllegalToPoke off := by decide

/-- The list is complete for POKE of any byte. -/
theorem isIllegalPoke_decodePoke (off val : Byte) :
    (decodePoke off val).isIllegalPoke = true ↔ IllegalBothWays off ∨ IllegalToPoke off := by
  rw [isIllegalPoke_decodePoke_byte]
  exact isIllegalPoke_decodePoke_zero off

end Sys2Proof

namespace Sys2Proof.Machine

/-- Every illegal read returns the sentinel and changes nothing else. -/
theorem exec_of_isIllegalPeek {i : Instr} (h : i.isIllegalPeek = true) (s : State) :
    exec i s = .next { s with result := some 0xFF } := by
  unfold Instr.isIllegalPeek at h
  split at h
  case h_16 => cases h
  all_goals rfl

/-- Every illegal write changes nothing. -/
theorem exec_of_isIllegalPoke {i : Instr} (h : i.isIllegalPoke = true) (s : State) : exec i s = .next s := by
  unfold Instr.isIllegalPoke at h
  split at h
  case h_18 => cases h
  all_goals rfl

/-- An illegal PEEK on the word. -/
theorem exec_decoded_illegalPeek {off : Byte} (h : IllegalBothWays off ∨ IllegalToPeek off) (d : Byte) (s : State) :
    ∃ i, decode (mkWord 0x0 off d) = .ok i ∧ exec i s = .next { s with result := some 0xFF } :=
  ⟨_, decode_peek off d, exec_of_isIllegalPeek ((isIllegalPeek_decodePeek off).2 h) s⟩

/-- An illegal POKE on the word. -/
theorem exec_decoded_illegalPoke {off : Byte} (h : IllegalBothWays off ∨ IllegalToPoke off) (d : Byte) (s : State) :
    ∃ i, decode (mkWord 0x1 off d) = .ok i ∧ exec i s = .next s :=
  ⟨_, decode_poke off d, exec_of_isIllegalPoke ((isIllegalPoke_decodePoke off d).2 h) s⟩

end Sys2Proof.Machine

open Sys2Proof Sys2Proof.Machine

/-- Settles O37: the decoder gives the listed pairs the illegal commands, and those answer as one. -/
theorem illegalOffsets : Obligations.IllegalOffsets := fun _ d s =>
  ⟨fun h => ⟨exec_decoded_illegalPeek (.inl h) d s, exec_decoded_illegalPoke (.inl h) d s⟩,
    fun h => exec_decoded_illegalPeek (.inr h) d s, fun h => exec_decoded_illegalPoke (.inr h) d s⟩

/-- Settles O36: the two lists hold illegal reads and illegal writes only. -/
theorem illegalAccessCommands : Obligations.IllegalAccessCommands := fun _ _ s =>
  ⟨fun i hi => exec_of_isIllegalPeek (List.all_eq_true.1 (by rfl) i hi) s,
    fun i hi => exec_of_isIllegalPoke (List.all_eq_true.1 (by rfl) i hi) s⟩

end

section
/-! The system registers (45_system_registers.md R156 to R165): interrupt status, power control and the I/O port. -/

namespace Sys2Proof.Machine

/-! ### Interrupt status -/

/-- A write of INTRST clears the bits written as 1 (R157). -/
theorem getLsbD_and_not (v val : Byte) {k : Nat} (hk : k < 8) :
    (v &&& ~~~val).getLsbD k = (v.getLsbD k && !val.getLsbD k) := by
  rw [BitVec.getLsbD_and, BitVec.getLsbD_not, decide_eq_true hk, Bool.true_and]

/-- INTSET as the parameter maps it: read as INTRST is, and written 1s set (R158, R159). -/
theorem exec_intset_of_mapped {s : State} (h : s.params.intsetMapped = true) (val : Byte) :
    exec .peekIntset s = .next { s with result := some s.intStatus } ∧
      exec (.pokeIntset val) s = .next { s with intStatus := s.intStatus ||| val } := by
  change execPeekIntset s = _ ∧ execPokeIntset val s = _
  rw [execPeekIntset, execPokeIntset, if_pos h, if_pos h]
  exact ⟨rfl, rfl⟩

/-- Unmapped, both its accesses are illegal ones (R155). -/
theorem exec_intset_of_unmapped {s : State} (h : s.params.intsetMapped = false) (val : Byte) :
    exec .peekIntset s = .next { s with result := some 0xFF } ∧ exec (.pokeIntset val) s = .next s := by
  change execPeekIntset s = _ ∧ execPokeIntset val s = _
  rw [execPeekIntset, execPokeIntset, h, if_neg Bool.false_ne_true, if_neg Bool.false_ne_true]
  exact ⟨rfl, rfl⟩

/-! ### Power control -/

/-- A power-down leaves the reset state but for what is not the block's to clear; its two events are appended and `halt`
is set (R160, 10_state.md R32). -/
theorem powerDown_eq (s : State) :
    powerDown s =
      { State.reset with
        params := s.params, uart := { State.reset.uart with rxq := List.replicate s.params.rxqDepth 0 }
        cycle := s.cycle, halt := true, surface := s.surface, mem := s.mem, result := s.result, pending := s.pending
        events := s.events ++ [.systemReset, .diag .powerDown] } := by
  rw [← powerDown_events]
  rfl

/-! ### The I/O port -/

/-- An IODAT write emits the data bit, then the write-enable bit where pin 4 is an output (R162). -/
theorem cartEvents_eq (s : State) (val : Byte) :
    s.cartEvents val = { s with
      events := s.events ++ [.cartAddrData (val.getLsbD 1)] ++
        (if s.iodir.getLsbD 4 = true then [.cartBank1WriteEnable (val.getLsbD 4)] else []) } := by
  unfold State.cartEvents
  by_cases h : s.iodir.getLsbD 4 = true
  · rw [if_pos h, if_pos h]; rfl
  · rw [if_neg h, if_neg h, List.append_nil]; rfl

/-- IODAT bit by bit (R163). -/
theorem iodatByte_bits (p : Params) (iodir iodat : Byte) (rest : Bool) :
    (iodatByte p iodir iodat rest).extractLsb' 5 3 = 0 ∧
      (∀ k, k = 0 ∨ k = 1 ∨ k = 2 ∨ k = 4 →
        (iodatByte p iodir iodat rest).getLsbD k = pinLevel p iodir iodat k) ∧
      (iodatByte p iodir iodat rest).getLsbD 3 = restPin p iodir iodat rest := by
  simp only [iodatByte]
  refine ⟨?_, ?_, getLsbD_byteOfBits ..⟩
  · ext k hk
    rw [BitVec.getElem_extractLsb', getLsbD_byteOfBits]
    match k with
    | 0 | 1 | 2 => simp
  · rintro k (rfl | rfl | rfl | rfl) <;> exact getLsbD_byteOfBits ..

/-- As an output the REST pin reads 0 exactly when software drives 1 and `rest` is latched (R163). -/
theorem restPin_eq_false_iff_of_output {iodir : Byte} (h : iodir.getLsbD 3 = true) (p : Params) (iodat : Byte)
    (rest : Bool) : restPin p iodir iodat rest = false ↔ iodat.getLsbD 3 = true ∧ rest = true := by
  rw [restPin, if_pos h, Bool.not_eq_false', Bool.and_eq_true]

/-- As an input it reads the pin's level (R163). -/
theorem restPin_of_input {iodir : Byte} (h : iodir.getLsbD 3 = false) (p : Params) (iodat : Byte) (rest : Bool) :
    restPin p iodir iodat rest = p.ioIn.getLsbD 3 := by
  rw [restPin, h, if_neg Bool.false_ne_true]

end Sys2Proof.Machine

open Sys2Proof Sys2Proof.Machine

/-- Settles O31: INTRST in every state, INTSET by the parameter that maps it. -/
theorem interruptStatusAccess : Obligations.InterruptStatusAccess := by
  refine fun val s => ⟨rfl, ⟨_, rfl, fun k hk => getLsbD_and_not s.intStatus val hk, rfl⟩, fun h => ?_,
    fun h => exec_intset_of_unmapped h val⟩
  obtain ⟨hpeek, hpoke⟩ := exec_intset_of_mapped h val
  exact ⟨hpeek, _, hpoke, fun k _ => BitVec.getLsbD_or, rfl⟩

/-- Settles O32: the strobe follows the state as it was, or `powerDown_eq`. -/
theorem powerControlPoke : Obligations.PowerControlPoke := by
  intro val s
  change (_ → execPokeSysctl1 val s = _) ∧ (_ → execPokeSysctl1 val s = _)
  refine ⟨fun hbit => ?_, fun hbit => ?_⟩
  · rw [execPokeSysctl1, if_pos hbit]
    rfl
  · rw [execPokeSysctl1, hbit, if_neg Bool.false_ne_true, powerDown_eq, State.emit, List.append_assoc]
    rfl

/-- Settles O33: the byte is stored, then `cartEvents_eq` says what IODAT emits. -/
theorem ioPortPokes : Obligations.IoPortPokes := fun val s =>
  ⟨rfl, congrArg Host.Outcome.next (cartEvents_eq { s with iodat := val } val)⟩

/-- Settles O34: the byte read is `iodatByte`, whose bits are the pins. -/
theorem ioPortPeek : Obligations.IoPortPeek := by
  intro s
  obtain ⟨hzero, hpins, hrest⟩ := iodatByte_bits s.params s.iodir s.iodat s.display.rest
  refine ⟨_, rfl, hzero, hpins, fun hout => ?_, fun hin => ?_⟩
  · rw [hrest, restPin_eq_false_iff_of_output hout]
  · rw [hrest, restPin_of_input hin]

/-- Settles O35: each of the eleven meanings is a constant byte returned, or the state as it was. -/
theorem auxiliaryRegisters : Obligations.AuxiliaryRegisters := fun _ _ =>
  ⟨rfl, rfl, rfl, rfl, rfl, rfl, rfl, rfl, rfl, rfl, rfl⟩

end

section
/-! Every command completes (60_exceptions.md R166), and what its completion does to the interrupt status (R168, R169):
each source of a status bit in a pass, and the commands that raise and lower the bits and the request line. -/

namespace Sys2Proof.Machine

/-- Each of the hundred meanings is a next state (R166). -/
theorem exec_completes (i : Instr) (s : State) : ∃ t, exec i s = .next t := by
  cases i <;> exact ⟨_, rfl⟩

/-! ### One source after another -/

/-- Status bit `k`, set where its source fired. -/
def statusBit (k : Nat) (fired : Bool) : Byte := if fired then 1#8 <<< k else 0#8

theorem getLsbD_statusBit {k : Nat} (hk : k < 8) (fired : Bool) (j : Nat) :
    (statusBit k fired).getLsbD j = (fired && decide (k = j)) := by
  cases fired
  · exact BitVec.getLsbD_zero
  · rw [statusBit, if_pos rfl, ← BitVec.twoPow_eq, BitVec.getLsbD_twoPow, decide_eq_true hk]

/-- From `s` to `t` the interrupt status gains `bits`; the mask and the UART, which gate the sources, stay. -/
structure Raised (s : State) (bits : Byte) (t : State) : Prop where
  status : t.intStatus = s.intStatus ||| bits
  mask : t.intMask = s.intMask
  uart : t.uart = s.uart

section
variable {s t u : State} {bits more : Byte}

theorem Raised.refl (s : State) : Raised s 0#8 s := ⟨BitVec.or_zero.symm, rfl, rfl⟩

theorem Raised.trans (h : Raised s bits t) (h' : Raised t more u) : Raised s (bits ||| more) u :=
  ⟨by rw [h'.status, h.status, BitVec.or_assoc], h'.mask.trans h.mask, h'.uart.trans h.uart⟩

/-- What `f` raises is raised exactly if it is called. -/
theorem Raised.ifFired {f : State → State} {k : Nat} {enabled : Bool} (h : Raised s (statusBit k enabled) (f s))
    (fired : Bool) : Raised s (statusBit k (enabled && fired)) (ranIf fired f s) := by
  cases fired
  · rw [Bool.and_false]; exact Raised.refl s
  · rw [Bool.and_true]; exact h

theorem raised_raiseIfEnabled (s : State) (k : Nat) :
    Raised s (statusBit k (s.intMask.getLsbD k)) (s.raiseIfEnabled k) := by
  rw [raiseIfEnabled_eq]
  cases s.intMask.getLsbD k
  · exact Raised.refl s
  · exact ⟨rfl, rfl, rfl⟩

/-- The line strobe raises bit 0 where it passes its gate (43_display.md R131). -/
theorem raised_renderLine (s : State) :
    Raised s (statusBit 0 (s.intMask.getLsbD 0 && (s.display.surfaceBound && s.display.dmaEnable)))
      (renderLine s) := by
  cases hgate : s.display.surfaceBound && s.display.dmaEnable
  · rw [Bool.and_false, renderLine, hgate]
    exact Raised.refl s
  · obtain ⟨hbound, hdma⟩ := Bool.and_eq_true_iff.1 hgate
    rw [Bool.and_true, renderLine_of_on hbound hdma, drawLine_frame]
    have hraise := raised_raiseIfEnabled s 0
    rw [raiseIfEnabled_eq] at hraise
    exact ⟨hraise.status, hraise.mask, hraise.uart⟩

/-- The frame strobe raises bit 2 (R133). -/
theorem raised_endOfFrame (s : State) : Raised s (statusBit 2 (s.intMask.getLsbD 2)) (endOfFrame s) := by
  obtain ⟨hstatus, hmask, huart⟩ := raised_raiseIfEnabled
    { s with display := { s.display with dmaLines := 0, lineCount := (s.timer 2).ctr.backup } } 2
  exact ⟨hstatus, hmask, huart⟩

/-- The serial level sets bit 4 whatever the mask holds (44_uart.md R147). -/
theorem raised_serialLevelAssert (s : State) : Raised s (statusBit 4 s.uart.irqLevel) (serialLevelAssert s) := by
  rw [serialLevelAssert]
  cases s.uart.irqLevel
  · exact Raised.refl s
  · exact ⟨rfl, rfl, rfl⟩

/-- One of the timers 1, 3, 5, 6, 7 on its turn (41_timers.md R83). -/
theorem Raised.raises (h : Raised s bits t) (fired : Bool) (k : Nat) :
    Raised s (bits ||| statusBit k (s.intMask.getLsbD k && fired))
      (ranIf fired (fun s => s.raiseIfEnabled k) t) := by
  rw [← h.mask]
  exact h.trans ((raised_raiseIfEnabled t k).ifFired fired)

/-- The channels raise nothing (42_audio.md R102). -/
theorem Raised.ranAudio (h : Raised s bits t) (fired : Bool) (c : Fin 4) :
    Raised s bits (ranIf fired (audioUnderflow c) t) := by
  cases fired
  · exact h
  · obtain ⟨e, hc⟩ := audioUnderflow_changes c t
    change Raised s bits (audioUnderflow c t)
    rw [hc]
    exact ⟨h.status, h.mask, h.uart⟩

end

/-! ### The sources of a pass -/

/-- The bits a pass raises, by the timers that fired and the serial level (60_exceptions.md R168): group A's, then the
others'. -/
def State.passBits (s : State) (fired : Fin 8 → Bool) (level : Bool) : Byte :=
  (statusBit 0 (s.intMask.getLsbD 0 && (s.display.surfaceBound && s.display.dmaEnable) && fired 0) |||
    statusBit 2 (s.intMask.getLsbD 2 && fired 2)) |||
  (statusBit 4 level |||
    statusBit 1 (s.intMask.getLsbD 1 && fired 1) ||| statusBit 3 (s.intMask.getLsbD 3 && fired 3) |||
    statusBit 5 (s.intMask.getLsbD 5 && fired 5) ||| statusBit 7 (s.intMask.getLsbD 7 && fired 7) |||
    statusBit 6 (s.intMask.getLsbD 6 && fired 6))

/-- The serial level is tested after Timer 4's tick and nothing later writes the UART, so it is the level the actions
leave. -/
theorem intStatus_passActions (fired : CounterRef → Bool) (e : State) :
    (passOrder.foldl (passAction fired) e).intStatus =
      e.intStatus ||| e.passBits (fun n => fired (.timer n))
        (passOrder.foldl (passAction fired) e).uart.irqLevel := by
  rw [passActions_eq]
  have hline := (raised_renderLine e).ifFired (fired (.timer 0))
  have hstrobes := hline.trans ((raised_endOfFrame _).ifFired (fired (.timer 2)))
  rw [hline.mask] at hstrobes
  generalize ranIf (fired (.timer 2)) endOfFrame _ = t at hstrobes
  obtain ⟨hstatus, hmask⟩ : (ranIf (fired (.timer 4)) uartTick t).intStatus = t.intStatus ∧
      (ranIf (fired (.timer 4)) uartTick t).intMask = t.intMask := by
    cases fired (.timer 4)
    · exact ⟨rfl, rfl⟩
    · obtain ⟨ev, htick⟩ := uartTick_changes t
      rw [ranIf, if_pos rfl, htick]
      exact ⟨rfl, rfl⟩
  generalize ranIf (fired (.timer 4)) uartTick t = u at hstatus hmask
  have hothers := (((((((((raised_serialLevelAssert u).raises (fired (.timer 1)) 1).raises (fired (.timer 3)) 3).raises
    (fired (.timer 5)) 5).raises (fired (.timer 7)) 7).ranAudio (fired (.audio 0)) 0).ranAudio (fired (.audio 1))
    1).ranAudio (fired (.audio 2)) 2).ranAudio (fired (.audio 3)) 3).raises (fired (.timer 6)) 6
  rw [hothers.status, hothers.uart, hstatus, hstrobes.status, hmask, hstrobes.mask, BitVec.or_assoc]
  rfl

theorem Bookkept.intStatus {e p : State} (h : Bookkept e p) : p.intStatus = e.intStatus := by rw [h.rest]; rfl

theorem Bookkept.uart {e p : State} (h : Bookkept e p) : p.uart = e.uart := by rw [h.rest]; rfl

/-- A pass raises the bits of the timers whose borrow stands after it, and of the serial level. -/
theorem intStatus_updatePass (s : State) :
    (updatePass s).intStatus =
      s.intStatus ||| s.passBits (fun n => ((updatePass s).timer n).ctr.borrowOut) (updatePass s).uart.irqLevel := by
  have hbook := bookkept_updatePass s
  rw [hbook.intStatus, hbook.uart, intStatus_passActions]
  generalize updatePass s = t
  rfl

/-! ### The commands that write the status -/

/-- The commands that reset the block: RESET, and a SYSCTL1 write that powers down (70_reset_and_hazards.md R178,
45_system_registers.md R160). -/
def ClearsBlock (i : Instr) : Prop := i = .reset ∨ ∃ val, i = .pokeSysctl1 val ∧ val.getLsbD 1 = false

/-- Everything a command can do to the interrupt status: a pass raises bits, INTRST clears the bits written as 1, INTSET
sets them where it is mapped, a reset or a power-down clears all, and every other command leaves it (R168). -/
theorem exec_intStatus_cases {i : Instr} {s t : State} (h : exec i s = .next t) :
    (RunsPass i ∧ ∃ bits, t.intStatus = s.intStatus ||| bits) ∨
    (∃ val, i = .pokeIntrst val ∧ t.intStatus = s.intStatus &&& ~~~val) ∨
    (∃ val, i = .pokeIntset val ∧ s.params.intsetMapped = true ∧ t.intStatus = s.intStatus ||| val) ∨
    (ClearsBlock i ∧ t.intStatus = 0#8) ∨
    t.intStatus = s.intStatus := by
  cases i <;> obtain rfl := Host.Outcome.next.inj h
  case update => exact .inl ⟨.inl rfl, _, intStatus_updatePass s⟩
  case peekTimCnt n =>
    exact .inl ⟨.inr (.inl ⟨n, rfl⟩), _, (State.returnByte_intStatus ..).trans (intStatus_updatePass s)⟩
  case peekAudCount c =>
    exact .inl ⟨.inr (.inr ⟨c, rfl⟩), _, (State.returnByte_intStatus ..).trans (intStatus_updatePass s)⟩
  case pokeIntrst val => exact .inr (.inl ⟨val, rfl, rfl⟩)
  case pokeIntset val =>
    split
    · next hmapped => exact .inr (.inr (.inl ⟨val, rfl, hmapped, rfl⟩))
    · exact .inr (.inr (.inr (.inr rfl)))
  case reset => exact .inr (.inr (.inr (.inl ⟨.inl rfl, rfl⟩)))
  case pokeSysctl1 val =>
    split
    · exact .inr (.inr (.inr (.inr rfl)))
    · next hbit => exact .inr (.inr (.inr (.inl ⟨.inr ⟨val, rfl, eq_false_of_ne_true hbit⟩, rfl⟩)))
  all_goals refine .inr (.inr (.inr (.inr ?_)))
  case pokeAudOutval | pokeAtten | pokeMpan | pokeMstereo => simp [mix_eq]
  case pokeIodat val => rw [cartEvents_eq]
  -- every other command writes other fields only
  all_goals rfl

section
variable {i : Instr} {s t : State} (h : exec i s = .next t)
include h

/-- What lowers a status bit. -/
theorem exec_lowers_statusBit {k : Nat} (hs : s.intStatus.getLsbD k = true) (ht : t.intStatus.getLsbD k = false) :
    (∃ val, i = .pokeIntrst val ∧ val.getLsbD k = true) ∨ ClearsBlock i := by
  rcases exec_intStatus_cases h with ⟨-, bits, e⟩ | ⟨val, hi, e⟩ | ⟨val, -, -, e⟩ | ⟨hi, -⟩ | e
  · rw [e, BitVec.getLsbD_or, hs] at ht; cases ht
  · rw [e, getLsbD_and_not _ _ (BitVec.lt_of_getLsbD hs), hs, Bool.true_and, Bool.not_eq_false'] at ht
    exact .inl ⟨val, hi, ht⟩
  · rw [e, BitVec.getLsbD_or, hs] at ht; cases ht
  · exact .inr hi
  · rw [e, hs] at ht; cases ht

/-- What raises a status bit. -/
theorem exec_raises_statusBit {k : Nat} (hs : s.intStatus.getLsbD k = false) (ht : t.intStatus.getLsbD k = true) :
    (∃ val, i = .pokeIntset val ∧ val.getLsbD k = true ∧ s.params.intsetMapped = true) ∨ RunsPass i := by
  rcases exec_intStatus_cases h with ⟨hi, -⟩ | ⟨val, -, e⟩ | ⟨val, hi, hmapped, e⟩ | ⟨-, e⟩ | e
  · exact .inr hi
  · rw [e, BitVec.getLsbD_and, hs] at ht; cases ht
  · rw [e, BitVec.getLsbD_or, hs, Bool.false_or] at ht
    exact .inl ⟨val, hi, ht, hmapped⟩
  · rw [e, BitVec.getLsbD_zero] at ht; cases ht
  · rw [e, hs] at ht; cases ht

end

/-! ### The request line -/

/-- The line is the OR of the status bits (R169). -/
theorem irqLine_eq_false_iff (s : State) : irqLine s = false ↔ ∀ k, s.intStatus.getLsbD k = false := by
  rw [irqLine, bne_eq_false_iff_eq]
  exact ⟨fun h k => h ▸ BitVec.getLsbD_zero,
    fun h => BitVec.eq_of_getLsbD_eq fun k _ => (h k).trans BitVec.getLsbD_zero.symm⟩

theorem irqLine_iff (s : State) : irqLine s = true ↔ ∃ k, k < 8 ∧ s.intStatus.getLsbD k = true := by
  rw [← Bool.not_eq_false, irqLine_eq_false_iff, not_forall]
  refine exists_congr fun k => ?_
  rw [Bool.not_eq_false]
  exact ⟨fun h => ⟨BitVec.lt_of_getLsbD h, h⟩, And.right⟩

section
variable {i : Instr} {s t : State} (h : exec i s = .next t)
include h

/-- The line falls only where every status bit falls (R169). -/
theorem exec_lowers_irqLine (hs : irqLine s = true) (ht : irqLine t = false) :
    (∃ val, i = .pokeIntrst val ∧ ∀ k, s.intStatus.getLsbD k = true → val.getLsbD k = true) ∨ ClearsBlock i := by
  obtain ⟨k, -, hk⟩ := (irqLine_iff s).1 hs
  have hoff := (irqLine_eq_false_iff t).1 ht
  rcases exec_lowers_statusBit h hk (hoff k) with ⟨val, rfl, -⟩ | hclear
  · refine .inl ⟨val, rfl, fun j hj => ?_⟩
    rcases exec_lowers_statusBit h hj (hoff j) with ⟨_, ⟨⟩, hval⟩ | ⟨⟨⟩⟩ | ⟨_, ⟨⟩, -⟩
    exact hval
  · exact .inr hclear

/-- The line rises only where some status bit rises (R169). -/
theorem exec_raises_irqLine (hs : irqLine s = false) (ht : irqLine t = true) :
    (∃ val, i = .pokeIntset val ∧ val ≠ 0 ∧ s.params.intsetMapped = true) ∨ RunsPass i := by
  obtain ⟨k, -, hk⟩ := (irqLine_iff t).1 ht
  rcases exec_raises_statusBit h ((irqLine_eq_false_iff s).1 hs k) hk with ⟨val, hi, hval, hmapped⟩ | hpass
  · refine .inl ⟨val, hi, ?_, hmapped⟩
    rintro rfl
    exact Bool.false_ne_true (BitVec.getLsbD_zero.symm.trans hval)
  · exact .inr hpass

end

end Sys2Proof.Machine

open Sys2Proof Sys2Proof.Machine

/-- Settles O50: the bits a pass adds, `State.passBits`, read one by one. -/
theorem interruptSources : Obligations.InterruptSources := by
  intro s t ht
  obtain rfl := exec_update_eq ht
  rw [intStatus_updatePass]
  simp (disch := decide) only [State.passBits, BitVec.getLsbD_or, getLsbD_statusBit]
  refine ⟨?timers, ?line, ?frame, ?serial⟩
  case timers => rintro n (rfl | rfl | rfl | rfl | rfl) <;> simp
  case line => simp [Bool.and_assoc, Bool.and_comm, Bool.and_left_comm]
  case frame => simp
  case serial => simp [Uart.irqLevel, Bool.or_assoc]

/-- Settles O54: the fault type has no constructor, every meaning is a next state, and every word of class 0 to 9
decodes. -/
theorem everyCommandCompletes : Obligations.EveryCommandCompletes := by
  refine ⟨nofun, exec_completes, fun w hw => ?_⟩
  obtain ⟨i, hi⟩ := exists_decode w hw
  exact ⟨i, hi, exec_completes i⟩

/-- Settles O56: the line is the OR of the status bits, and `exec_intStatus_cases` names all that writes them. -/
theorem interruptStatusWriters : Obligations.InterruptStatusWriters := fun _ s _ h =>
  ⟨irqLine_iff s, exec_lowers_irqLine h, exec_raises_irqLine h,
    fun _ => ⟨exec_lowers_statusBit h, exec_raises_statusBit h⟩⟩

end

section
/-! The reset state (70_reset_and_hazards.md R178, R179): what RESET leaves, what the registers read after it, and the
invariant it meets. -/

namespace Sys2Proof.Machine

/-! ### What a reset leaves -/

/-- Every field but what is not the block's to clear stands as in `State.reset`; the receive queue is emptied at the
depth the parameters give it (R179). -/
theorem resetState_eq (s : State) :
    resetState s = { State.reset with
      params := s.params, uart := { State.reset.uart with rxq := List.replicate s.params.rxqDepth 0 }
      cycle := s.cycle, halt := s.halt, surface := s.surface, mem := s.mem, events := s.events
      result := s.result, pending := s.pending } := rfl

@[simp] theorem timer_resetState (s : State) (n : Fin 8) : (resetState s).timer n = Timer.zero :=
  Vector.getElem_replicate _

@[simp] theorem channel_resetState (s : State) (c : Fin 4) : (resetState s).channel c = AudioChannel.zero :=
  Vector.getElem_replicate _

@[simp] theorem counter_resetState (s : State) (ref : CounterRef) : (resetState s).counter ref = Counter.zero := by
  cases ref with
  | timer n => exact congrArg Timer.ctr (timer_resetState s n)
  | audio c => exact congrArg AudioChannel.ctr (channel_resetState s c)

/-! ### What the registers read: each read returns its byte of the state and changes nothing else -/

theorem exec_peekSerctl (s : State) : exec .peekSerctl s = .next { s with result := some (serctlByte s.uart) } := rfl

theorem exec_peekTimCtla (n : Fin 8) (s : State) :
    exec (.peekTimCtla n) s =
      .next { s with result := some (ctlaByte (s.intMask.getLsbD n) (s.timer n).ctr) } := rfl

theorem exec_peekIodat (s : State) :
    exec .peekIodat s =
      .next { s with result := some (iodatByte s.params s.iodir s.iodat s.display.rest) } := rfl

/-- The transmitter reads as ready, and nothing as received (44_uart.md R151). -/
theorem serctlByte_resetState (s : State) : serctlByte (resetState s).uart = 0xA0 := by
  simp only [serctlByte, resetState, Uart.zero]
  decide

/-- A timer's control register reads 0: no field set, the interrupt masked (41_timers.md R94). -/
theorem ctlaByte_resetState (s : State) (n : Fin 8) :
    ctlaByte ((resetState s).intMask.getLsbD n) ((resetState s).timer n).ctr = 0x00 := by
  have hmask : (resetState s).intMask.getLsbD n = false := BitVec.getLsbD_zero
  rw [hmask, timer_resetState]
  decide

/-- With every pin an input, IODAT reads the five input levels, whatever the latch and REST hold
(45_system_registers.md R163). -/
theorem iodatByte_of_inputs (p : Params) (iodat : Byte) (rest : Bool) :
    iodatByte p 0 iodat rest = 0#3 ++ p.ioIn := by
  have hpin : ∀ k, pinLevel p 0 iodat k = p.ioIn.getLsbD k := fun k => if_neg (by simp)
  have hrest : restPin p 0 iodat rest = p.ioIn.getLsbD 3 := restPin_of_input BitVec.getLsbD_zero p iodat rest
  refine BitVec.eq_of_getLsbD_eq fun k hk => ?_
  rw [iodatByte, getLsbD_byteOfBits, hrest, hpin, hpin, hpin, hpin, BitVec.getLsbD_append]
  match k with
  | 0 | 1 | 2 | 3 | 4 | 5 | 6 | 7 => simp

/-- After a reset every pin is an input. -/
theorem iodatByte_resetState (s : State) :
    iodatByte (resetState s).params (resetState s).iodir (resetState s).iodat (resetState s).display.rest =
      0#3 ++ s.params.ioIn :=
  iodatByte_of_inputs ..

/-! ### The invariant -/

/-- With no channel enabled on either side, both sums are 0 (42_audio.md R104). -/
theorem sums_of_noChannelEnabled {s : State} (h : s.mixer.stereoEnable = 0) : s.leftSum = 0 ∧ s.rightSum = 0 := by
  simp [State.leftSum, State.rightSum, State.leftTerm, State.rightTerm, h]

/-- A reset meets the invariant wherever memory and surface are in form and the queue has a slot: the block's own fields
are the reset values, whatever they were (R179). -/
theorem resetState_inv {s : State} (hmem : Memory.wf s.mem = true) (hsurface : Surface.wf s.params s.surface = true)
    (hdepth : 0 < s.params.rxqDepth) : (resetState s).Inv := by
  have huart : (Uart.zero s.params).Ok s.params := Uart.zero_ok hdepth
  obtain ⟨hleft, hright⟩ := sums_of_noChannelEnabled (s := resetState s) rfl
  exact {
    mem := hmem
    surface := hsurface
    queue := huart.queue
    uart := huart.range
    words := huart.words
    display := ⟨Nat.zero_le _, Nat.zero_le _⟩
    counts := fun ref => by rw [counter_resetState]; decide
    mixer := ⟨hleft.symm, hright.symm⟩ }

/-- The defaults of 00_scope.md R10 leave the room a rebase needs (40_update_dispatcher.md R69). -/
theorem rebaseFits_default : RebaseFits Params.default where
  threshold := by decide
  noBorrow := by decide
  delta := by decide

end Sys2Proof.Machine

open Sys2Proof Sys2Proof.Machine

/-- Settles O23: the state after RESET is `resetState s`, and each of the four reads returns its byte of that state. -/
theorem resetCommand : Obligations.ResetCommand := by
  refine fun s => ⟨resetState s, rfl, resetState_eq s, ?serctl, ?intrst, ?timCtla, ?iodat, ?default⟩
  case serctl => rw [exec_peekSerctl, serctlByte_resetState]
  case intrst => rfl
  case timCtla => rw [exec_peekTimCtla, ctlaByte_resetState]
  case iodat => rw [exec_peekIodat, iodatByte_resetState]
  case default =>
    intro hdefault
    rw [hdefault]
    decide

/-- Settles O60: the reset state is its own reset, with empty memory and surface and the default queue depth. -/
theorem resetMeetsInvariant : Obligations.ResetMeetsInvariant :=
  ⟨resetState_inv (s := State.reset) rfl rfl (by decide), rebaseFits_default⟩

end

section
/-! One step on the host's next input (00_scope.md R7; 20_memory.md R45, R48): what runs for a command word that decodes,
and what a write of the host leaves. -/

namespace Sys2Proof.Machine

/-- A step runs the command its word decodes to, on the state with that input taken (R7, R45). -/
theorem step_command {s : State} {w : CmdWord} {rest : List HostInput} {i : Instr}
    (hs : s.pending = .command w :: rest) (hi : decode w = .ok i) :
    step s = exec i { s with pending := rest, result := none } := by
  simp only [step, State.takeInput_cons hs, hi]

/-- A step on a write of the host makes that write in the state with the input taken (R48). -/
theorem step_memWrite {s : State} {adr : BitVec 16} {b : Byte} {rest : List HostInput}
    (hs : s.pending = .memWrite adr b :: rest) :
    step s = .next (State.hostMemWrite { s with pending := rest, result := none } adr b) := by
  simp only [step, State.takeInput_cons hs]

/-- A 20-bit command word is put ahead of the waiting inputs whole: the cut to 20 bits loses nothing of it. -/
theorem State.withFetchWord_pending (s : State) (w : CmdWord) :
    (s.withFetchWord 20 w.toNat).pending = .command w :: s.pending := by
  have hcut : BitVec.ofNat 20 (w.toNat % 2 ^ 20) = w := by
    rw [Nat.mod_eq_of_lt w.isLt, BitVec.ofNat_toNat, BitVec.setWidth_eq]
  simp only [State.withFetchWord, hcut]

end Sys2Proof.Machine

open Sys2Proof Sys2Proof.Machine

/-- Settles O8: the step is `hostMemWrite`, whose memory is `Memory.write` of the old one; that reads back at its address
by the canonical form, and as before at every other. -/
theorem stepHostMemoryWrite : Obligations.StepHostMemoryWrite := by
  intro s adr b rest hmem hs
  refine ⟨_, step_memWrite hs, ?same, ?other, rfl⟩
  case same => exact Memory.read_write_same hmem adr b
  case other => exact fun _ hne => Memory.read_write_other s.mem hne b

/-- Settles O7: `step_command` on the inputs as they wait, and on those with the fetched word ahead of them, which the
step takes away again. -/
theorem stepRunsTheDecodedCommand : Obligations.StepRunsTheDecodedCommand :=
  ⟨fun _ _ _ _ hs hi => step_command hs hi, fun s w _ hi => step_command (s.withFetchWord_pending w) hi⟩

end
